-- ==== Sys2Proof/Word.lean ====
section
/-! DEFINITION. The word types of the machine: the 18-bit instruction word, the content of an integer register and
the content of a floating-point register. -/

namespace Sys2Proof

/-- An 18-bit instruction word, `w[17]` its first (most significant) bit (00_scope.md R9, 30_encoding.md R70). -/
abbrev Word := BitVec 18

/-- The content of an integer register: 64 bits (10_state.md R20). -/
abbrev XVal := BitVec 64

/-- The content of a floating-point register: the spec's abstract type `FVal`, an OPEN parameter (10_state.md R26,
00_scope.md R7). A content is known by a number that stands for nothing but itself: no operation computes with it, and
every instruction reaches it through `FNUM` alone. Whatever finite or countable type a machine's registers hold, its
values can be so numbered, and a statement over every state holds of it. DESIGN CHOICE of this representation,
notes/assumptions/6.md. -/
structure FVal where
  content : Nat
deriving DecidableEq, Repr, Inhabited

/-- The reference instantiation of `FVal`: the content that a 128-bit vector in the Q format is (10_state.md R26). -/
def FVal.ofQuad (v : BitVec 128) : FVal where
  content := v.toNat

/-- The bit pattern of a floating-point number, in the low bits of the widest format (41_float_operate.md R201). -/
abbrev FPattern := BitVec 128

end Sys2Proof
end

