-- ==== Sys2Proof/Config.lean ====
section
/-! DEFINITION. What an implementation fixes and the source leaves open (00_scope.md R7): the parameters as the record
`Params`, the operand-field layouts as the record `Layouts` of functions and as the plain data `LayoutTable` that a state
holds, and the uninterpreted functions (the numerics record `FNUM` and the values the rules call `any`) as opaque constants
that nothing can evaluate. -/

namespace Sys2Proof

/-- What becomes of the register bits above a narrow result: the values of `NARROW_EXT` and `UEXT` (00_scope.md R18,
92_eei_decisions.md D16, D17). -/
inductive Ext where
  | sign
  | zero
  | unchanged
deriving DecidableEq, Repr, Inhabited

/-- The values of `ST_UPPER` and `SW_UPPER` (92_eei_decisions.md D18, D19). -/
inductive Upper where
  | unchanged
  | sign
deriving DecidableEq, Repr, Inhabited

/-- Which operand of DIVIDE and DIVIDE UNSIGNED is the dividend: the values of `DIV_ORDER` (40_integer_operate.md
R121, 90_conflicts.md C6). -/
inductive DivOrder where
  | srcByDst
  | dstBySrc
deriving DecidableEq, Repr, Inhabited

/-- The four operand sizes of the shift and rotate formats SH-L, SH-I, SH-H, SH-B (30_encoding.md R72, R81). -/
inductive ShSize where
  | long
  | int
  | half
  | byte
deriving DecidableEq, Repr

/-- The layout parameters of 00_scope.md R7: `OPERATE_LAYOUT` over `w[10:0]`, `SHIFT_LAYOUT` over the word,
`FLAG_LAYOUT` and `SVC_LAYOUT` over `w[7:0]` (30_encoding.md R73, R83, R85, R86). The decoder takes one as an
argument; a machine's is `Layouts.ofTable` of its `LayoutTable`, the reference instantiation `Layouts.ref` (both in
Decode.lean). -/
structure Layouts where
  dstOf : BitVec 11 → Nat
  srcOf : BitVec 11 → Nat
  opReserved : BitVec 11 → Bool
  regOf : ShSize → Word → Nat
  countOf : ShSize → Word → Nat
  shReserved : ShSize → Word → Bool
  flagOf : BitVec 8 → Nat
  condOf : BitVec 8 → BitVec 5
  svcCode : BitVec 8 → BitVec 8

/-- What `OPERATE_LAYOUT` says of one value of `w[10:0]`: the two register numbers, and whether the value is reserved
(30_encoding.md R73). -/
structure OperateFields where
  dst : Nat
  src : Nat
  reserved : Bool
deriving DecidableEq, Repr

/-- What `SHIFT_LAYOUT` says of one word: the register number, the count, and whether the word is reserved
(30_encoding.md R83). -/
structure ShiftFields where
  reg : Nat
  count : Nat
  reserved : Bool
deriving DecidableEq, Repr

/-- What `FLAG_LAYOUT` says of one value of `w[7:0]`: the flag number and the condition number (30_encoding.md R85). -/
structure FlagFields where
  flag : Nat
  cond : BitVec 5
deriving DecidableEq, Repr

/-- Operand layouts as plain data: the values at which each departs from the reference layout, with what it says there.
Every layout over the finite set of words can be so listed, and the empty lists are the reference layouts. -/
structure LayoutTable where
  /-- `OPERATE_LAYOUT`, by `w[10:0]` -/
  operate : List (BitVec 11 × OperateFields)
  /-- `SHIFT_LAYOUT`, by the word -/
  shift : List (Word × ShiftFields)
  /-- `FLAG_LAYOUT`, by `w[7:0]` -/
  flag : List (BitVec 8 × FlagFields)
  /-- `SVC_LAYOUT`, by `w[7:0]` -/
  svc : List (BitVec 8 × BitVec 8)
deriving DecidableEq, Repr

/-- The values of `ENDIAN` (20_memory.md R53). -/
inductive Endian where
  | little
  | big
deriving DecidableEq, Repr

namespace Machine

/-- A container: its length in bits and its embedded instruction words in execution order; their number is `n`
(10_state.md R37, 30_encoding.md R76, R77, R79). -/
structure Container where
  len : Nat
  words : List Word
deriving DecidableEq, Repr

end Machine

/-- The parameters of 00_scope.md R7 that are plain data. They are fixed for a machine: no step changes them. `NIREG`,
`NFREG` and `NFLAGS` are the lengths of the register files and of the flag list in `State`, so they are open too. -/
structure Params where
  /-- `OPERATE_LAYOUT`, `SHIFT_LAYOUT`, `FLAG_LAYOUT`, `SVC_LAYOUT` (D6 to D9). -/
  layouts : LayoutTable
  /-- `NARROW_EXT`: upper register bits after a narrow integer result (D16). -/
  narrowExt : Ext
  /-- `UEXT`: upper register bits after a narrow result of DU and DEU (D17). -/
  uext : Ext
  /-- `ST_UPPER`: upper register bits after a narrow STORE (D18). -/
  stUpper : Upper
  /-- `SW_UPPER`: upper register bits after a narrow SWAP (D19). -/
  swUpper : Upper
  /-- `DIV_ORDER`: which operand of D and DU is the dividend (D37). -/
  divOrder : DivOrder
  /-- `AW`: the width of an instruction address in bits (D13). -/
  aw : Nat
  /-- Whether `FVal` is the 128-bit vector in the Q format, its reference instantiation, so that `FNUM.load`, `FNUM.store`
  and `FNUM.swap` of type Q are the three identities of 41_float_operate.md R208 (D5, D35); when false nothing is known
  of `FVal`, and they are uninterpreted as the others are. -/
  quadFills : Bool
  /-- `ENDIAN`: the byte order, if it is known. No rule of the spec reads it (D14, 20_memory.md R53). -/
  endian : Option Endian
  /-- `CONTAINER_CODEC`: the memory images of containers, as far as they are known. No rule of the spec reads it: containers
  are given structurally (D15, 30_encoding.md R80). -/
  codec : List (Machine.Container × List (BitVec 8))
deriving DecidableEq, Repr

/-- The three outcomes of the raw and the unsigned condition groups: L, E, H (10_state.md R28, R29). -/
inductive Leh where
  | low
  | equal
  | high
deriving DecidableEq, Repr, Inhabited

/-- The three outcomes of the signed condition group: M, Z, P (10_state.md R28, R29). -/
inductive Mzp where
  | minus
  | zero
  | plus
deriving DecidableEq, Repr, Inhabited

/-- The floating-point operand types M, F, D, Q (41_float_operate.md R201). -/
inductive FType where
  | medium
  | floating
  | double
  | quad
deriving DecidableEq, Repr, Inhabited

/-- What `FNUM.cmp` answers: an order, or `U` for none (41_float_operate.md R208). -/
inductive FOrd where
  | minus
  | zero
  | plus
  | unordered
deriving DecidableEq, Repr, Inhabited

/-- `FNUM.load(T, v)`, uninterpreted (41_float_operate.md R208). -/
opaque Config.fnumLoad : FType → FVal → FVal

/-- `FNUM.store(T, old, v)`, uninterpreted (41_float_operate.md R208). -/
opaque Config.fnumStore : FType → FVal → FVal → FVal

/-- `FNUM.swap(T, vd, vs)`, the new contents of destination and source, uninterpreted (41_float_operate.md R208). -/
opaque Config.fnumSwap : FType → FVal → FVal → FVal × FVal

/-- `FNUM.add(T, a, b)`, uninterpreted (41_float_operate.md R208). -/
opaque Config.fnumAdd : FType → FVal → FVal → FVal

/-- `FNUM.sub(T, a, b)`, uninterpreted (41_float_operate.md R208). -/
opaque Config.fnumSub : FType → FVal → FVal → FVal

/-- `FNUM.mul(T, a, b)`, uninterpreted (41_float_operate.md R208). -/
opaque Config.fnumMul : FType → FVal → FVal → FVal

/-- `FNUM.div(T, a, b)`, `a` the dividend, uninterpreted (41_float_operate.md R208). -/
opaque Config.fnumDiv : FType → FVal → FVal → FVal

/-- `FNUM.cmp(T, a, b)`, the order of `a` against `b`, uninterpreted (41_float_operate.md R208). -/
opaque Config.fnumCmp : FType → FVal → FVal → FOrd

/-- Whether a pattern encodes a number by the value formula and is not a zero, a special value or an unnormalised number.
The source gives no such encoding and does not say whether there are any, in any format, so this is any value
(41_float_operate.md R206, notes/assumptions/31.md). -/
opaque Config.floatIsNumber (t : FType) (v : FPattern) : Bool

/-- `CMP_RAW(N, a, b)`: what an integer COMPARE leaves in `cc.raw`, any value, drawn anew at each use (the first
argument counts the draws) (40_integer_operate.md R119, 00_scope.md R15). -/
opaque Config.cmpRaw (draw n a b : Nat) : Leh

/-- `CMP_CARRY(N, a, b)`: what an integer COMPARE leaves in `cc.c`, any value (40_integer_operate.md R119). -/
opaque Config.cmpCarry (draw n a b : Nat) : Bool

/-- What an unordered floating-point COMPARE leaves in `cc.sgn`, any value (41_float_operate.md R213). -/
opaque Config.fcmpSgn (draw : Nat) (t : FType) (a b : FVal) : Mzp

/-- What a floating-point COMPARE leaves in `cc.uns`, any value (41_float_operate.md R213). -/
opaque Config.fcmpUns (draw : Nat) (t : FType) (a b : FVal) : Leh

/-- What a floating-point COMPARE leaves in `cc.raw`, any value (41_float_operate.md R213). -/
opaque Config.fcmpRaw (draw : Nat) (t : FType) (a b : FVal) : Leh

/-- What a floating-point COMPARE leaves in `cc.v`, any value (41_float_operate.md R213). -/
opaque Config.fcmpV (draw : Nat) (t : FType) (a b : FVal) : Bool

/-- What a floating-point COMPARE leaves in `cc.c`, any value (41_float_operate.md R213). -/
opaque Config.fcmpC (draw : Nat) (t : FType) (a b : FVal) : Bool

end Sys2Proof
end

