-- ==== Sys2Proof/Machine/Operands.lean ====
section
/-! DEFINITION. The operand forms as functions on values: the listed condition numbers, the low `N` bits of a register,
the ways a narrow result fills a register, the division helpers, the double-length pair, and the numerics record `FNUM`
with its reference identities. Nothing here reads the machine state. -/

namespace Sys2Proof

/-- The 24 condition numbers of the branch listing: 0 to 7, 9 to 15 and 17 to 25 (43_branch.md R282). -/
def listedCond (q : BitVec 5) : Bool :=
  q != 8#5 && q != 16#5 && decide (q.toNat ≤ 25)

end Sys2Proof

namespace Sys2Proof.Machine

/-- The reference instantiation of the plain parameters, column REF of 00_scope.md R7. DESIGN CHOICE wherever a run
starts from it (notes/assumptions/2.md). -/
def refParams : Params :=
  { layouts := { operate := [], shift := [], flag := [], svc := [] }, narrowExt := .sign, uext := .sign,
    stUpper := .unchanged, swUpper := .unchanged, divOrder := .srcByDst, aw := 64, quadFills := true, endian := none,
    codec := [] }

/-- `lo_N(v)`: the low `N` bits of a register (00_scope.md R13, 40_integer_operate.md R111). -/
def lo (n : Nat) (v : XVal) : BitVec n :=
  v.setWidth n

/-- `old[63:N] ++ r`: the result in the low bits, the rest of the register kept (00_scope.md R18, 40_integer_operate.md
R116). -/
def keepUpper {n : Nat} (old : XVal) (r : BitVec n) : XVal :=
  ((old >>> n) <<< n) ||| r.setWidth 64

/-- A narrow result written over a register that held `old`: `wr_narrow` and `wr_unsigned` (00_scope.md R18). For a
64-bit result all three values of the parameter give the result itself. -/
def extend {n : Nat} (e : Ext) (old : XVal) (r : BitVec n) : XVal :=
  match e with
  | .sign => r.signExtend 64
  | .zero => r.setWidth 64
  | .unchanged => keepUpper old r

/-- `ST_UPPER` and `SW_UPPER` as a way to fill a register (40_integer_operate.md R114, R124). -/
def upperExt : Upper → Ext
  | .unchanged => .unchanged
  | .sign => .sign

/-- `divmag(a, b)`: magnitudes divided, then both results signed by whether the signs of the operands agree
(00_scope.md R16, 90_conflicts.md C7). -/
def divmag (a b : Int) : Int × Int :=
  let q : Int := (a.natAbs / b.natAbs : Nat)
  let r : Int := (a.natAbs % b.natAbs : Nat)
  if decide (0 ≤ a) = decide (0 ≤ b) then (q, r) else (-q, -r)

/-- `udiv(a, b)`: quotient and remainder of unsigned numbers (00_scope.md R16). -/
def udiv (a b : Nat) : Nat × Nat :=
  (a / b, a % b)

/-- Dividend and divisor of DIVIDE and DIVIDE UNSIGNED, `a` from the destination and `b` from the source, by `DIV_ORDER`
(40_integer_operate.md R121). -/
def divOperands {α : Type} (o : DivOrder) (a b : α) : α × α :=
  match o with
  | .srcByDst => (b, a)
  | .dstBySrc => (a, b)

/-- The most significant half of a double-length value (40_integer_operate.md R125). -/
def highHalf (p : BitVec 128) : XVal :=
  p.extractLsb' 64 64

/-- The least significant half of a double-length value (40_integer_operate.md R125). -/
def lowHalf (p : BitVec 128) : XVal :=
  p.extractLsb' 0 64

/-- `FNUM.load`, the identity of type Q when the register holds the Q format (41_float_operate.md R208). -/
def floatLoad (p : Params) (t : FType) (v : FVal) : FVal :=
  if p.quadFills ∧ t = .quad then v else Config.fnumLoad t v

/-- `FNUM.store`, for type Q the source value when the register holds the Q format (41_float_operate.md R208). -/
def floatStore (p : Params) (t : FType) (old v : FVal) : FVal :=
  if p.quadFills ∧ t = .quad then v else Config.fnumStore t old v

/-- `FNUM.swap`, for type Q the exchange when the register holds the Q format (41_float_operate.md R208). -/
def floatSwap (p : Params) (t : FType) (vd vs : FVal) : FVal × FVal :=
  if p.quadFills ∧ t = .quad then (vs, vd) else Config.fnumSwap t vd vs

/-- The floating-point quotient of the destination's `a` and the source's `b`, the dividend chosen by `DIV_ORDER`
(41_float_operate.md R212). -/
def floatDiv (p : Params) (t : FType) (a b : FVal) : FVal :=
  Config.fnumDiv t (divOperands p.divOrder a b).1 (divOperands p.divOrder a b).2

/-- Rotate left within the operand: `res[i] = v[(i - c) mod N]`. PRESUMED: the source names the operation only
(42_shift_rotate.md R256, notes/assumptions/18.md). -/
def rotate {n : Nat} (v : BitVec n) (c : Nat) : BitVec n :=
  v.rotateLeft c

/-- An instruction address: a number taken modulo `2^AW` (10_state.md R36, R40). -/
def wrapAddr (p : Params) (a : Int) : Nat :=
  (a % (2 ^ p.aw : Nat)).toNat

end Sys2Proof.Machine
end

