-- ==== Sys2Proof/Syntax.lean ====
section
/-! DEFINITION. The instructions: one constructor for each of the 139 rows of spec/opcode_table.json. Register and flag
numbers and shift counts are unsigned numbers (30_encoding.md R88, R89); a displacement, a condition number and the
operand of SVC are the bits the word holds (30_encoding.md R84 to R87). In an operate instruction `rd` is the
destination `d` and `rs` the source `s`. -/

namespace Sys2Proof

/-- The 139 instructions of the class (00_scope.md R3). -/
inductive Instr where
  /-- CB, COMPARE BYTE (R158). -/
  | cb (rd rs : Nat)
  /-- LB, LOAD BYTE (R138). -/
  | lb (rd rs : Nat)
  /-- STB, STORE BYTE (R142). -/
  | stb (rd rs : Nat)
  /-- AB, ADD BYTE (R146). -/
  | ab (rd rs : Nat)
  /-- SB, SUBTRACT BYTE (R150). -/
  | sb (rd rs : Nat)
  /-- MB, MULTIPLY BYTE (R130). -/
  | mb (rd rs : Nat)
  /-- DB, DIVIDE BYTE (R134). -/
  | db (rd rs : Nat)
  /-- IB, INSERT BYTE (R162). -/
  | ib (rd rs : Nat)
  /-- XB, EXCLUSIVE OR BYTE (R165). -/
  | xb (rd rs : Nat)
  /-- ULB, UNSIGNED LOAD BYTE (R169). -/
  | ulb (rd rs : Nat)
  /-- DUB, DIVIDE UNSIGNED BYTE (R172). -/
  | dub (rd rs : Nat)
  /-- NB, AND BYTE (R176). -/
  | nb (rd rs : Nat)
  /-- OB, OR BYTE (R180). -/
  | ob (rd rs : Nat)
  /-- SWB, SWAP BYTE (R154). -/
  | swb (rd rs : Nat)
  /-- SWH, SWAP HALFWORD (R155). -/
  | swh (rd rs : Nat)
  /-- DEUH, DIVIDE EXTENSIBLY UNSIGNED HALFWORD (R190). -/
  | deuh (rd rs : Nat)
  /-- CH, COMPARE HALFWORD (R159). -/
  | ch (rd rs : Nat)
  /-- LH, LOAD HALFWORD (R139). -/
  | lh (rd rs : Nat)
  /-- STH, STORE HALFWORD (R143). -/
  | sth (rd rs : Nat)
  /-- AH, ADD HALFWORD (R147). -/
  | ah (rd rs : Nat)
  /-- SH, SUBTRACT HALFWORD (R151). -/
  | sh (rd rs : Nat)
  /-- MH, MULTIPLY HALFWORD (R131). -/
  | mh (rd rs : Nat)
  /-- DH, DIVIDE HALFWORD (R135). -/
  | dh (rd rs : Nat)
  /-- IH, INSERT HALFWORD (R163). -/
  | ih (rd rs : Nat)
  /-- XH, EXCLUSIVE OR HALFWORD (R166). -/
  | xh (rd rs : Nat)
  /-- ULH, UNSIGNED LOAD HALFWORD (R170). -/
  | ulh (rd rs : Nat)
  /-- DUH, DIVIDE UNSIGNED HALFWORD (R173). -/
  | duh (rd rs : Nat)
  /-- NH, AND HALFWORD (R177). -/
  | nh (rd rs : Nat)
  /-- OH, OR HALFWORD (R181). -/
  | oh (rd rs : Nat)
  /-- MEH, MULTIPLY EXTENSIBLY HALFWORD (R184). -/
  | meh (rd rs : Nat)
  /-- DEH, DIVIDE EXTENSIBLY HALFWORD (R187). -/
  | deh (rd rs : Nat)
  /-- DEU, DIVIDE EXTENSIBLY UNSIGNED INTEGER (R191). -/
  | deu (rd rs : Nat)
  /-- C, COMPARE INTEGER (R160). -/
  | c (rd rs : Nat)
  /-- L, LOAD INTEGER (R140). -/
  | l (rd rs : Nat)
  /-- ST, STORE INTEGER (R144). -/
  | st (rd rs : Nat)
  /-- A, ADD INTEGER (R148). -/
  | a (rd rs : Nat)
  /-- S, SUBTRACT INTEGER (R152). -/
  | s (rd rs : Nat)
  /-- M, MULTIPLY INTEGER (R132). -/
  | m (rd rs : Nat)
  /-- D, DIVIDE INTEGER (R136). -/
  | d (rd rs : Nat)
  /-- I, INSERT INTEGER (R164). -/
  | i (rd rs : Nat)
  /-- X, EXCLUSIVE OR INTEGER (R167). -/
  | x (rd rs : Nat)
  /-- UL, UNSIGNED LOAD INTEGER (R171). -/
  | ul (rd rs : Nat)
  /-- DU, DIVIDE UNSIGNED INTEGER (R174). -/
  | du (rd rs : Nat)
  /-- N, AND INTEGER (R178). -/
  | n (rd rs : Nat)
  /-- O, OR INTEGER (R182). -/
  | o (rd rs : Nat)
  /-- ME, MULTIPLY EXTENSIBLY INTEGER (R185). -/
  | me (rd rs : Nat)
  /-- DE, DIVIDE EXTENSIBLY INTEGER (R188). -/
  | de (rd rs : Nat)
  /-- DEUL, DIVIDE EXTENSIBLY UNSIGNED LONG (R192). -/
  | deul (rd rs : Nat)
  /-- CL, COMPARE LONG (R161). -/
  | cl (rd rs : Nat)
  /-- LL, LOAD LONG (R141). -/
  | ll (rd rs : Nat)
  /-- STL, STORE LONG (R145). -/
  | stl (rd rs : Nat)
  /-- AL, ADD LONG (R149). -/
  | al (rd rs : Nat)
  /-- SL, SUBTRACT LONG (R153). -/
  | sl (rd rs : Nat)
  /-- ML, MULTIPLY LONG (R133). -/
  | ml (rd rs : Nat)
  /-- DL, DIVIDE LONG (R137). -/
  | dl (rd rs : Nat)
  /-- SW, SWAP INTEGER (R156). -/
  | sw (rd rs : Nat)
  /-- XL, EXCLUSIVE OR LONG (R168). -/
  | xl (rd rs : Nat)
  /-- SWL, SWAP LONG (R157). -/
  | swl (rd rs : Nat)
  /-- DUL, DIVIDE UNSIGNED LONG (R175). -/
  | dul (rd rs : Nat)
  /-- NL, AND LONG (R179). -/
  | nl (rd rs : Nat)
  /-- OL, OR LONG (R183). -/
  | ol (rd rs : Nat)
  /-- MEL, MULTIPLY EXTENSIBLY LONG (R186). -/
  | mel (rd rs : Nat)
  /-- DEL, DIVIDE EXTENSIBLY LONG (R189). -/
  | del (rd rs : Nat)
  /-- SWM, SWAP MEDIUM (R216). -/
  | swm (rd rs : Nat)
  /-- CM, COMPARE MEDIUM (R220). -/
  | cm (rd rs : Nat)
  /-- LM, LOAD MEDIUM (R224). -/
  | lm (rd rs : Nat)
  /-- STM, STORE MEDIUM (R228). -/
  | stm (rd rs : Nat)
  /-- AM, ADD MEDIUM (R232). -/
  | am (rd rs : Nat)
  /-- SM, SUBTRACT MEDIUM (R236). -/
  | sm (rd rs : Nat)
  /-- MM, MULTIPLY MEDIUM (R240). -/
  | mm (rd rs : Nat)
  /-- DM, DIVIDE MEDIUM (R244). -/
  | dm (rd rs : Nat)
  /-- SWF, SWAP FLOATING (R217). -/
  | swf (rd rs : Nat)
  /-- CF, COMPARE FLOATING (R221). -/
  | cf (rd rs : Nat)
  /-- LF, LOAD FLOATING (R225). -/
  | lf (rd rs : Nat)
  /-- STF, STORE FLOATING (R229). -/
  | stf (rd rs : Nat)
  /-- AF, ADD FLOATING (R233). -/
  | af (rd rs : Nat)
  /-- SF, SUBTRACT FLOATING (R237). -/
  | sf (rd rs : Nat)
  /-- MF, MULTIPLY FLOATING (R241). -/
  | mf (rd rs : Nat)
  /-- DF, DIVIDE FLOATING (R245). -/
  | df (rd rs : Nat)
  /-- SWD, SWAP DOUBLE (R218). -/
  | swd (rd rs : Nat)
  /-- CD, COMPARE DOUBLE (R222). -/
  | cd (rd rs : Nat)
  /-- LD, LOAD DOUBLE (R226). -/
  | ld (rd rs : Nat)
  /-- STD, STORE DOUBLE (R230). -/
  | std (rd rs : Nat)
  /-- AD, ADD DOUBLE (R234). -/
  | ad (rd rs : Nat)
  /-- SD, SUBTRACT DOUBLE (R238). -/
  | sd (rd rs : Nat)
  /-- MD, MULTIPLY DOUBLE (R242). -/
  | md (rd rs : Nat)
  /-- DD, DIVIDE DOUBLE (R246). -/
  | dd (rd rs : Nat)
  /-- SWQ, SWAP QUAD (R219). -/
  | swq (rd rs : Nat)
  /-- CQ, COMPARE QUAD (R223). -/
  | cq (rd rs : Nat)
  /-- LQ, LOAD QUAD (R227). -/
  | lq (rd rs : Nat)
  /-- STQ, STORE QUAD (R231). -/
  | stq (rd rs : Nat)
  /-- AQ, ADD QUAD (R235). -/
  | aq (rd rs : Nat)
  /-- SQ, SUBTRACT QUAD (R239). -/
  | sq (rd rs : Nat)
  /-- MQ, MULTIPLY QUAD (R243). -/
  | mq (rd rs : Nat)
  /-- DQ, DIVIDE QUAD (R247). -/
  | dq (rd rs : Nat)
  /-- LSLLC, Logical Shift Left Long Compact (R262). -/
  | lsllc (reg cnt : Nat)
  /-- LSRLC, Logical Shift Right Long Compact (R263). -/
  | lsrlc (reg cnt : Nat)
  /-- RLLC, Rotate Left Long Compact (R264). -/
  | rllc (reg cnt : Nat)
  /-- ASRLC, Arithmetic Shift Right Long Compact (R265). -/
  | asrlc (reg cnt : Nat)
  /-- LSLC, Logical Shift Left Compact (R266). -/
  | lslc (reg cnt : Nat)
  /-- LSRC, Logical Shift Right Compact (R267). -/
  | lsrc (reg cnt : Nat)
  /-- RLC, Rotate Left Compact (R268). -/
  | rlc (reg cnt : Nat)
  /-- ASRC, Arithmetic Shift Right Compact (R269). -/
  | asrc (reg cnt : Nat)
  /-- LSLHC, Logical Shift Left Halfword Compact (R270). -/
  | lslhc (reg cnt : Nat)
  /-- LSRHC, Logical Shift Right Halfword Compact (R271). -/
  | lsrhc (reg cnt : Nat)
  /-- RLHC, Rotate Left Halfword Compact (R272). -/
  | rlhc (reg cnt : Nat)
  /-- ASRHC, Arithmetic Shift Right Halfword Compact (R273). -/
  | asrhc (reg cnt : Nat)
  /-- LSLBC, Logical Shift Left Byte Compact (R274). -/
  | lslbc (reg cnt : Nat)
  /-- LSRBC, Logical Shift Right Byte Compact (R275). -/
  | lsrbc (reg cnt : Nat)
  /-- RLBC, Rotate Left Byte Compact (R276). -/
  | rlbc (reg cnt : Nat)
  /-- ASRBC, Arithmetic Shift Right Byte Compact (R277). -/
  | asrbc (reg cnt : Nat)
  /-- NOP, No Operation (R287). -/
  | nop (disp : BitVec 8)
  /-- BLR, Branch if Low Raw (R288). -/
  | blr (disp : BitVec 8)
  /-- BER, Branch if Equal Raw (R289). -/
  | ber (disp : BitVec 8)
  /-- BLER, Branch if Low or Equal Raw (R290). -/
  | bler (disp : BitVec 8)
  /-- BHR, Branch if High Raw (R291). -/
  | bhr (disp : BitVec 8)
  /-- BNER, Branch if Not Equal Raw (R292). -/
  | bner (disp : BitVec 8)
  /-- BHER, Branch if High or Equal Raw (R293). -/
  | bher (disp : BitVec 8)
  /-- B, Branch (R294). -/
  | b (disp : BitVec 8)
  /-- BM, Branch if Minus (R295). -/
  | bm (disp : BitVec 8)
  /-- BZ, Branch if Zero (R296). -/
  | bz (disp : BitVec 8)
  /-- BMZ, Branch if Minus or Zero (R297). -/
  | bmz (disp : BitVec 8)
  /-- BP, Branch if Plus (R298). -/
  | bp (disp : BitVec 8)
  /-- BNZ, Branch if Not Zero (R299). -/
  | bnz (disp : BitVec 8)
  /-- BPZ, Branch if Plus or Zero (R300). -/
  | bpz (disp : BitVec 8)
  /-- BNV, Branch if No Overflow (R301). -/
  | bnv (disp : BitVec 8)
  /-- BL, Branch if Low (R302). -/
  | bl (disp : BitVec 8)
  /-- BE, Branch if Equal (R303). -/
  | be (disp : BitVec 8)
  /-- BLE, Branch if Low or Equal (R304). -/
  | ble (disp : BitVec 8)
  /-- BH, Branch if High (R305). -/
  | bh (disp : BitVec 8)
  /-- BNE, Branch if Not Equal (R306). -/
  | bne (disp : BitVec 8)
  /-- BHE, Branch if High or Equal (R307). -/
  | bhe (disp : BitVec 8)
  /-- BNC, Branch if No Carry (R308). -/
  | bnc (disp : BitVec 8)
  /-- BC, Branch if Carry (R309). -/
  | bc (disp : BitVec 8)
  /-- BV, Branch if Overflow (R310). -/
  | bv (disp : BitVec 8)
  /-- SFC, Set Flag on Condition (R322). -/
  | sfc (k : Nat) (q : BitVec 5)
  /-- CFC, Clear Flag on Condition (R323). -/
  | cfc (k : Nat) (q : BitVec 5)
  /-- CTF, Condition to Flag (R324). -/
  | ctf (k : Nat) (q : BitVec 5)
  /-- SVC, Supervisor Call (R327). -/
  | svc (code : BitVec 8)
deriving DecidableEq, Repr

end Sys2Proof
end

