-- ==== Sys2Proof/WellFormed.lean ====
section
/-! DEFINITION. The form of an instruction (which operands it has, of which kind) and when its operands can be
encoded under the reference layouts. -/

namespace Sys2Proof

/-- The operand shape of an instruction: the formats OP (over either register file), SH, BR, FL and SVC
(30_encoding.md R71). -/
inductive Form where
  | intOp (rd rs : Nat)
  | floatOp (rd rs : Nat)
  | shift (size : ShSize) (reg cnt : Nat)
  | branch (disp : BitVec 8)
  | flag (k : Nat) (q : BitVec 5)
  | svc (code : BitVec 8)
deriving DecidableEq, Repr

/-- The form of each instruction (30_encoding.md R75, R91 to R94). -/
def Instr.form : Instr → Form
  | .cb rd rs => .intOp rd rs
  | .lb rd rs => .intOp rd rs
  | .stb rd rs => .intOp rd rs
  | .ab rd rs => .intOp rd rs
  | .sb rd rs => .intOp rd rs
  | .mb rd rs => .intOp rd rs
  | .db rd rs => .intOp rd rs
  | .ib rd rs => .intOp rd rs
  | .xb rd rs => .intOp rd rs
  | .ulb rd rs => .intOp rd rs
  | .dub rd rs => .intOp rd rs
  | .nb rd rs => .intOp rd rs
  | .ob rd rs => .intOp rd rs
  | .swb rd rs => .intOp rd rs
  | .swh rd rs => .intOp rd rs
  | .deuh rd rs => .intOp rd rs
  | .ch rd rs => .intOp rd rs
  | .lh rd rs => .intOp rd rs
  | .sth rd rs => .intOp rd rs
  | .ah rd rs => .intOp rd rs
  | .sh rd rs => .intOp rd rs
  | .mh rd rs => .intOp rd rs
  | .dh rd rs => .intOp rd rs
  | .ih rd rs => .intOp rd rs
  | .xh rd rs => .intOp rd rs
  | .ulh rd rs => .intOp rd rs
  | .duh rd rs => .intOp rd rs
  | .nh rd rs => .intOp rd rs
  | .oh rd rs => .intOp rd rs
  | .meh rd rs => .intOp rd rs
  | .deh rd rs => .intOp rd rs
  | .deu rd rs => .intOp rd rs
  | .c rd rs => .intOp rd rs
  | .l rd rs => .intOp rd rs
  | .st rd rs => .intOp rd rs
  | .a rd rs => .intOp rd rs
  | .s rd rs => .intOp rd rs
  | .m rd rs => .intOp rd rs
  | .d rd rs => .intOp rd rs
  | .i rd rs => .intOp rd rs
  | .x rd rs => .intOp rd rs
  | .ul rd rs => .intOp rd rs
  | .du rd rs => .intOp rd rs
  | .n rd rs => .intOp rd rs
  | .o rd rs => .intOp rd rs
  | .me rd rs => .intOp rd rs
  | .de rd rs => .intOp rd rs
  | .deul rd rs => .intOp rd rs
  | .cl rd rs => .intOp rd rs
  | .ll rd rs => .intOp rd rs
  | .stl rd rs => .intOp rd rs
  | .al rd rs => .intOp rd rs
  | .sl rd rs => .intOp rd rs
  | .ml rd rs => .intOp rd rs
  | .dl rd rs => .intOp rd rs
  | .sw rd rs => .intOp rd rs
  | .xl rd rs => .intOp rd rs
  | .swl rd rs => .intOp rd rs
  | .dul rd rs => .intOp rd rs
  | .nl rd rs => .intOp rd rs
  | .ol rd rs => .intOp rd rs
  | .mel rd rs => .intOp rd rs
  | .del rd rs => .intOp rd rs
  | .swm rd rs => .floatOp rd rs
  | .cm rd rs => .floatOp rd rs
  | .lm rd rs => .floatOp rd rs
  | .stm rd rs => .floatOp rd rs
  | .am rd rs => .floatOp rd rs
  | .sm rd rs => .floatOp rd rs
  | .mm rd rs => .floatOp rd rs
  | .dm rd rs => .floatOp rd rs
  | .swf rd rs => .floatOp rd rs
  | .cf rd rs => .floatOp rd rs
  | .lf rd rs => .floatOp rd rs
  | .stf rd rs => .floatOp rd rs
  | .af rd rs => .floatOp rd rs
  | .sf rd rs => .floatOp rd rs
  | .mf rd rs => .floatOp rd rs
  | .df rd rs => .floatOp rd rs
  | .swd rd rs => .floatOp rd rs
  | .cd rd rs => .floatOp rd rs
  | .ld rd rs => .floatOp rd rs
  | .std rd rs => .floatOp rd rs
  | .ad rd rs => .floatOp rd rs
  | .sd rd rs => .floatOp rd rs
  | .md rd rs => .floatOp rd rs
  | .dd rd rs => .floatOp rd rs
  | .swq rd rs => .floatOp rd rs
  | .cq rd rs => .floatOp rd rs
  | .lq rd rs => .floatOp rd rs
  | .stq rd rs => .floatOp rd rs
  | .aq rd rs => .floatOp rd rs
  | .sq rd rs => .floatOp rd rs
  | .mq rd rs => .floatOp rd rs
  | .dq rd rs => .floatOp rd rs
  | .lsllc reg cnt => .shift .long reg cnt
  | .lsrlc reg cnt => .shift .long reg cnt
  | .rllc reg cnt => .shift .long reg cnt
  | .asrlc reg cnt => .shift .long reg cnt
  | .lslc reg cnt => .shift .int reg cnt
  | .lsrc reg cnt => .shift .int reg cnt
  | .rlc reg cnt => .shift .int reg cnt
  | .asrc reg cnt => .shift .int reg cnt
  | .lslhc reg cnt => .shift .half reg cnt
  | .lsrhc reg cnt => .shift .half reg cnt
  | .rlhc reg cnt => .shift .half reg cnt
  | .asrhc reg cnt => .shift .half reg cnt
  | .lslbc reg cnt => .shift .byte reg cnt
  | .lsrbc reg cnt => .shift .byte reg cnt
  | .rlbc reg cnt => .shift .byte reg cnt
  | .asrbc reg cnt => .shift .byte reg cnt
  | .nop disp => .branch disp
  | .blr disp => .branch disp
  | .ber disp => .branch disp
  | .bler disp => .branch disp
  | .bhr disp => .branch disp
  | .bner disp => .branch disp
  | .bher disp => .branch disp
  | .b disp => .branch disp
  | .bm disp => .branch disp
  | .bz disp => .branch disp
  | .bmz disp => .branch disp
  | .bp disp => .branch disp
  | .bnz disp => .branch disp
  | .bpz disp => .branch disp
  | .bnv disp => .branch disp
  | .bl disp => .branch disp
  | .be disp => .branch disp
  | .ble disp => .branch disp
  | .bh disp => .branch disp
  | .bne disp => .branch disp
  | .bhe disp => .branch disp
  | .bnc disp => .branch disp
  | .bc disp => .branch disp
  | .bv disp => .branch disp
  | .sfc k q => .flag k q
  | .cfc k q => .flag k q
  | .ctf k q => .flag k q
  | .svc code => .svc code

/-- How many counts a shift size has: one for each distinct shift of its operand (30_encoding.md R83, R88). -/
def ShSize.counts : ShSize → Nat
  | .long => 64
  | .int => 32
  | .half => 16
  | .byte => 8

/-- The operands fit the fields of the reference layouts: register and flag numbers below 8, a count below the operand
width, a listed condition number (30_encoding.md R73, R83, R85, R88, R89). Displacements and SVC codes always fit. -/
def Form.wellFormed : Form → Bool
  | .intOp rd rs => decide (rd < 8) && decide (rs < 8)
  | .floatOp rd rs => decide (rd < 8) && decide (rs < 8)
  | .shift size reg cnt => decide (reg < 8) && decide (cnt < size.counts)
  | .branch _ => true
  | .flag k q => decide (k < 8) && listedCond q
  | .svc _ => true

/-- A well-formed instruction: one that the reference layouts can encode. -/
def Instr.wellFormed (i : Instr) : Bool :=
  i.form.wellFormed

end Sys2Proof
end

