-- ==== Sys2Proof/Decode.lean ====
section
/-! DEFINITION. The decoder, total on all 2^18 words (30_encoding.md R72) and parametric in the operand layouts, its
reference instantiation, and the encoder written from the same tables. A word that is no instruction decodes to
`none`, which the step answers with the outcome `ReservedInstruction` (30_encoding.md R95 to R98). -/

namespace Sys2Proof

/-- The `n` bits of `w` from bit `lo` up, as an unsigned number. -/
def fieldNat (w : Word) (lo n : Nat) : Nat :=
  (w.extractLsb' lo n).toNat

/-- The operand width `N` of a shift size (42_shift_rotate.md R250). -/
def ShSize.width : ShSize → Nat
  | .long => 64
  | .int => 32
  | .half => 16
  | .byte => 8

/-- REF `SHIFT_LAYOUT`, the register designator: `w[11:9]`, for Byte `w[5:3]` (30_encoding.md R83). -/
def refRegOf : ShSize → Word → Nat
  | .long, w => fieldNat w 9 3
  | .int, w => fieldNat w 9 3
  | .half, w => fieldNat w 9 3
  | .byte, w => fieldNat w 3 3

/-- REF `SHIFT_LAYOUT`, the count: the low 6, 5, 4, 3 bits (30_encoding.md R83). -/
def refCountOf : ShSize → Word → Nat
  | .long, w => fieldNat w 0 6
  | .int, w => fieldNat w 0 5
  | .half, w => fieldNat w 0 4
  | .byte, w => fieldNat w 0 3

/-- REF `SHIFT_LAYOUT`, the reserved words: `w[8] = 1`, a bit above the count that is not 0, for Byte a third digit that
is not 0 (30_encoding.md R83, R96). -/
def refShReserved : ShSize → Word → Bool
  | .long, w => w.getLsbD 8
  | .int, w => w.getLsbD 8 || w.getLsbD 5
  | .half, w => w.getLsbD 8 || fieldNat w 4 2 != 0
  | .byte, w => w.getLsbD 8 || fieldNat w 9 3 != 0

/-- The reference layouts (30_encoding.md R73, R83, R85, R86). DESIGN CHOICE of the spec, made only to write concrete
encodings (notes/assumptions/1.md). -/
def Layouts.ref : Layouts where
  dstOf v := (v.extractLsb' 8 3).toNat
  srcOf v := (v.extractLsb' 5 3).toNat
  opReserved v := v.extractLsb' 0 5 != 0#5
  regOf := refRegOf
  countOf := refCountOf
  shReserved := refShReserved
  flagOf v := (v.extractLsb' 5 3).toNat
  condOf v := v.extractLsb' 0 5
  svcCode v := v

/-- The layouts a table describes: what it lists, and the reference layouts elsewhere (00_scope.md R7). -/
def Layouts.ofTable (t : LayoutTable) : Layouts where
  dstOf v := ((t.operate.lookup v).map OperateFields.dst).getD (Layouts.ref.dstOf v)
  srcOf v := ((t.operate.lookup v).map OperateFields.src).getD (Layouts.ref.srcOf v)
  opReserved v := ((t.operate.lookup v).map OperateFields.reserved).getD (Layouts.ref.opReserved v)
  regOf size w := ((t.shift.lookup w).map ShiftFields.reg).getD (Layouts.ref.regOf size w)
  countOf size w := ((t.shift.lookup w).map ShiftFields.count).getD (Layouts.ref.countOf size w)
  shReserved size w := ((t.shift.lookup w).map ShiftFields.reserved).getD (Layouts.ref.shReserved size w)
  flagOf v := ((t.flag.lookup v).map FlagFields.flag).getD (Layouts.ref.flagOf v)
  condOf v := ((t.flag.lookup v).map FlagFields.cond).getD (Layouts.ref.condOf v)
  svcCode v := (t.svc.lookup v).getD (Layouts.ref.svcCode v)

/-- Column 0b0000 of the operate chart, by row `w[13:11]` (30_encoding.md R91). -/
def opColumn0 : Nat → Option (Nat → Nat → Instr)
  | 1 => some .cb
  | 2 => some .lb
  | 3 => some .stb
  | 4 => some .ab
  | 5 => some .sb
  | 6 => some .mb
  | 7 => some .db
  | _ => none

/-- Column 0b0001 of the operate chart, by row `w[13:11]` (30_encoding.md R91). -/
def opColumn1 : Nat → Option (Nat → Nat → Instr)
  | 0 => some .ib
  | 1 => some .xb
  | 2 => some .ulb
  | 3 => some .dub
  | 4 => some .nb
  | 5 => some .ob
  | 6 => some .swb
  | 7 => some .swh
  | _ => none

/-- Column 0b0010 of the operate chart, by row `w[13:11]` (30_encoding.md R91). -/
def opColumn2 : Nat → Option (Nat → Nat → Instr)
  | 0 => some .deuh
  | 1 => some .ch
  | 2 => some .lh
  | 3 => some .sth
  | 4 => some .ah
  | 5 => some .sh
  | 6 => some .mh
  | 7 => some .dh
  | _ => none

/-- Column 0b0011 of the operate chart, by row `w[13:11]` (30_encoding.md R91). -/
def opColumn3 : Nat → Option (Nat → Nat → Instr)
  | 0 => some .ih
  | 1 => some .xh
  | 2 => some .ulh
  | 3 => some .duh
  | 4 => some .nh
  | 5 => some .oh
  | 6 => some .meh
  | 7 => some .deh
  | _ => none

/-- Column 0b0100 of the operate chart, by row `w[13:11]` (30_encoding.md R91). -/
def opColumn4 : Nat → Option (Nat → Nat → Instr)
  | 0 => some .deu
  | 1 => some .c
  | 2 => some .l
  | 3 => some .st
  | 4 => some .a
  | 5 => some .s
  | 6 => some .m
  | 7 => some .d
  | _ => none

/-- Column 0b0101 of the operate chart, by row `w[13:11]` (30_encoding.md R91). -/
def opColumn5 : Nat → Option (Nat → Nat → Instr)
  | 0 => some .i
  | 1 => some .x
  | 2 => some .ul
  | 3 => some .du
  | 4 => some .n
  | 5 => some .o
  | 6 => some .me
  | 7 => some .de
  | _ => none

/-- Column 0b0110 of the operate chart, by row `w[13:11]` (30_encoding.md R91). -/
def opColumn6 : Nat → Option (Nat → Nat → Instr)
  | 0 => some .deul
  | 1 => some .cl
  | 2 => some .ll
  | 3 => some .stl
  | 4 => some .al
  | 5 => some .sl
  | 6 => some .ml
  | 7 => some .dl
  | _ => none

/-- Column 0b0111 of the operate chart, by row `w[13:11]` (30_encoding.md R91). -/
def opColumn7 : Nat → Option (Nat → Nat → Instr)
  | 0 => some .sw
  | 1 => some .xl
  | 2 => some .swl
  | 3 => some .dul
  | 4 => some .nl
  | 5 => some .ol
  | 6 => some .mel
  | 7 => some .del
  | _ => none

/-- Column 0b1000 of the operate chart, by row `w[13:11]` (30_encoding.md R92). -/
def opColumn8 : Nat → Option (Nat → Nat → Instr)
  | 0 => some .swm
  | 1 => some .cm
  | 2 => some .lm
  | 3 => some .stm
  | 4 => some .am
  | 5 => some .sm
  | 6 => some .mm
  | 7 => some .dm
  | _ => none

/-- Column 0b1001 of the operate chart, by row `w[13:11]` (30_encoding.md R92). -/
def opColumn9 : Nat → Option (Nat → Nat → Instr)
  | 0 => some .swf
  | 1 => some .cf
  | 2 => some .lf
  | 3 => some .stf
  | 4 => some .af
  | 5 => some .sf
  | 6 => some .mf
  | 7 => some .df
  | _ => none

/-- Column 0b1010 of the operate chart, by row `w[13:11]` (30_encoding.md R92). -/
def opColumn10 : Nat → Option (Nat → Nat → Instr)
  | 0 => some .swd
  | 1 => some .cd
  | 2 => some .ld
  | 3 => some .std
  | 4 => some .ad
  | 5 => some .sd
  | 6 => some .md
  | 7 => some .dd
  | _ => none

/-- Column 0b1011 of the operate chart, by row `w[13:11]` (30_encoding.md R92). -/
def opColumn11 : Nat → Option (Nat → Nat → Instr)
  | 0 => some .swq
  | 1 => some .cq
  | 2 => some .lq
  | 3 => some .stq
  | 4 => some .aq
  | 5 => some .sq
  | 6 => some .mq
  | 7 => some .dq
  | _ => none

/-- The operate opcode chart: the column is `w[17:14]`, the row `w[13:11]` (30_encoding.md R74). The cell at column 0,
row 0 is blank (R95). -/
def opChart (column row : Nat) : Option (Nat → Nat → Instr) :=
  match column with
  | 0 => opColumn0 row
  | 1 => opColumn1 row
  | 2 => opColumn2 row
  | 3 => opColumn3 row
  | 4 => opColumn4 row
  | 5 => opColumn5 row
  | 6 => opColumn6 row
  | 7 => opColumn7 row
  | 8 => opColumn8 row
  | 9 => opColumn9 row
  | 10 => opColumn10 row
  | 11 => opColumn11 row
  | _ => none

/-- The shift and rotate listing: the kind `w[7:6]` of each size (30_encoding.md R81, R93). -/
def shiftListing (size : ShSize) (kind : Nat) : Option (Nat → Nat → Instr) :=
  match size, kind with
  | .long, 0 => some .lsllc
  | .long, 1 => some .lsrlc
  | .long, 2 => some .rllc
  | .long, 3 => some .asrlc
  | .int, 0 => some .lslc
  | .int, 1 => some .lsrc
  | .int, 2 => some .rlc
  | .int, 3 => some .asrc
  | .half, 0 => some .lslhc
  | .half, 1 => some .lsrhc
  | .half, 2 => some .rlhc
  | .half, 3 => some .asrhc
  | .byte, 0 => some .lslbc
  | .byte, 1 => some .lsrbc
  | .byte, 2 => some .rlbc
  | .byte, 3 => some .asrbc
  | _, _ => none

/-- The size of a shift word by its second octal digit `w[14:12]` (30_encoding.md R72). -/
def shiftSize (digit : Nat) : Option ShSize :=
  match digit with
  | 0 => some .long
  | 4 => some .int
  | 6 => some .half
  | 7 => some .byte
  | _ => none

/-- The branch listing by condition value (30_encoding.md R94). -/
def branchListing (cv : Nat) : Option (BitVec 8 → Instr) :=
  match cv with
  | 0 => some .nop
  | 1 => some .blr
  | 2 => some .ber
  | 3 => some .bler
  | 4 => some .bhr
  | 5 => some .bner
  | 6 => some .bher
  | 7 => some .b
  | 9 => some .bm
  | 10 => some .bz
  | 11 => some .bmz
  | 12 => some .bp
  | 13 => some .bnz
  | 14 => some .bpz
  | 15 => some .bnv
  | 17 => some .bl
  | 18 => some .be
  | 19 => some .ble
  | 20 => some .bh
  | 21 => some .bne
  | 22 => some .bhe
  | 23 => some .bnc
  | 24 => some .bc
  | 25 => some .bv
  | _ => none

/-- The flag instructions by condition value (30_encoding.md R85, R94). -/
def flagListing (cv : Nat) : Option (Nat → BitVec 5 → Instr) :=
  match cv with
  | 34 => some .sfc
  | 35 => some .cfc
  | 36 => some .ctf
  | _ => none

/-- Format OP: the opcode is `w[17:11]`, the operand designators are in `w[10:0]` (30_encoding.md R73, R74, R98). -/
def decodeOperate (L : Layouts) (w : Word) : Option Instr :=
  let v := w.extractLsb' 0 11
  if L.opReserved v then none
  else (opChart (fieldNat w 14 4) (fieldNat w 11 3)).map fun mk => mk (L.dstOf v) (L.srcOf v)

/-- Formats SH: a reserved word or a count at or above the operand width is no instruction (30_encoding.md R83, R96;
42_shift_rotate.md R251). -/
def decodeShift (L : Layouts) (w : Word) : Option Instr :=
  match shiftSize (fieldNat w 12 3) with
  | none => none
  | some size =>
    if L.shReserved size w || decide (size.width ≤ L.countOf size w) then none
    else (shiftListing size (fieldNat w 6 2)).map fun mk => mk (L.regOf size w) (L.countOf size w)

/-- Formats BR, FL and SVC, by the condition value `w[13:8]` (30_encoding.md R72, R84 to R86). A flag instruction whose
condition operand is not a listed condition number is reserved (30_encoding.md R89, R98). -/
def decodeBranchSpace (L : Layouts) (w : Word) : Option Instr :=
  let cv := fieldNat w 8 6
  let v := w.extractLsb' 0 8
  match branchListing cv with
  | some mk => some (mk v)
  | none =>
    match flagListing cv with
    | some mk => if listedCond (L.condOf v) then some (mk (L.flagOf v) (L.condOf v)) else none
    | none => if cv = 62 then some (.svc (L.svcCode v)) else none

/-- Format selection, total on all 2^18 words, for any layouts (30_encoding.md R72). -/
def decodeWith (L : Layouts) (w : Word) : Option Instr :=
  if fieldNat w 16 2 ≠ 3 then decodeOperate L w
  else if fieldNat w 15 3 = 6 then decodeShift L w
  else if fieldNat w 14 4 = 14 then decodeBranchSpace L w
  else none

/-- The decoder under the reference layouts. A machine decodes with the layouts of its own parameters (`State.decodeWord`). -/
def decode (w : Word) : Option Instr :=
  decodeWith Layouts.ref w

/-- An operate word: 7-bit opcode, `d` in `w[10:8]`, `s` in `w[7:5]`, zeros below (30_encoding.md R73). -/
def operateWord (opcode rd rs : Nat) : Word :=
  BitVec.ofNat 7 opcode ++ BitVec.ofNat 3 rd ++ BitVec.ofNat 3 rs ++ 0#5

/-- A shift word of size Long, Integer or Halfword: prefix, register in `w[11:9]`, `w[8] = 0`, kind in `w[7:6]`, count in
the low six bits (30_encoding.md R81, R83). -/
def shiftWord (pre r kind c : Nat) : Word :=
  BitVec.ofNat 6 pre ++ BitVec.ofNat 3 r ++ 0#1 ++ BitVec.ofNat 2 kind ++ BitVec.ofNat 6 c

/-- A shift word of size Byte: prefix 67, `w[11:8] = 0`, kind in `w[7:6]`, register in `w[5:3]`, count in `w[2:0]`
(30_encoding.md R81, R83). -/
def shiftByteWord (r kind c : Nat) : Word :=
  0o67#6 ++ 0#4 ++ BitVec.ofNat 2 kind ++ BitVec.ofNat 3 r ++ BitVec.ofNat 3 c

/-- A word of the branch space: `0b1110`, the condition value, the low eight bits (30_encoding.md R84 to R86). -/
def branchWord (cv : Nat) (low : BitVec 8) : Word :=
  0b1110#4 ++ BitVec.ofNat 6 cv ++ low

/-- The low eight bits of a flag word: flag in `w[7:5]`, condition number in `w[4:0]` (30_encoding.md R85). -/
def flagOperands (k : Nat) (q : BitVec 5) : BitVec 8 :=
  BitVec.ofNat 3 k ++ q

/-- The word of an instruction under the reference layouts (30_encoding.md R73, R83 to R86, R91 to R94). -/
def encode : Instr → Word
  | .cb rd rs => operateWord 0o001 rd rs
  | .lb rd rs => operateWord 0o002 rd rs
  | .stb rd rs => operateWord 0o003 rd rs
  | .ab rd rs => operateWord 0o004 rd rs
  | .sb rd rs => operateWord 0o005 rd rs
  | .mb rd rs => operateWord 0o006 rd rs
  | .db rd rs => operateWord 0o007 rd rs
  | .ib rd rs => operateWord 0o010 rd rs
  | .xb rd rs => operateWord 0o011 rd rs
  | .ulb rd rs => operateWord 0o012 rd rs
  | .dub rd rs => operateWord 0o013 rd rs
  | .nb rd rs => operateWord 0o014 rd rs
  | .ob rd rs => operateWord 0o015 rd rs
  | .swb rd rs => operateWord 0o016 rd rs
  | .swh rd rs => operateWord 0o017 rd rs
  | .deuh rd rs => operateWord 0o020 rd rs
  | .ch rd rs => operateWord 0o021 rd rs
  | .lh rd rs => operateWord 0o022 rd rs
  | .sth rd rs => operateWord 0o023 rd rs
  | .ah rd rs => operateWord 0o024 rd rs
  | .sh rd rs => operateWord 0o025 rd rs
  | .mh rd rs => operateWord 0o026 rd rs
  | .dh rd rs => operateWord 0o027 rd rs
  | .ih rd rs => operateWord 0o030 rd rs
  | .xh rd rs => operateWord 0o031 rd rs
  | .ulh rd rs => operateWord 0o032 rd rs
  | .duh rd rs => operateWord 0o033 rd rs
  | .nh rd rs => operateWord 0o034 rd rs
  | .oh rd rs => operateWord 0o035 rd rs
  | .meh rd rs => operateWord 0o036 rd rs
  | .deh rd rs => operateWord 0o037 rd rs
  | .deu rd rs => operateWord 0o040 rd rs
  | .c rd rs => operateWord 0o041 rd rs
  | .l rd rs => operateWord 0o042 rd rs
  | .st rd rs => operateWord 0o043 rd rs
  | .a rd rs => operateWord 0o044 rd rs
  | .s rd rs => operateWord 0o045 rd rs
  | .m rd rs => operateWord 0o046 rd rs
  | .d rd rs => operateWord 0o047 rd rs
  | .i rd rs => operateWord 0o050 rd rs
  | .x rd rs => operateWord 0o051 rd rs
  | .ul rd rs => operateWord 0o052 rd rs
  | .du rd rs => operateWord 0o053 rd rs
  | .n rd rs => operateWord 0o054 rd rs
  | .o rd rs => operateWord 0o055 rd rs
  | .me rd rs => operateWord 0o056 rd rs
  | .de rd rs => operateWord 0o057 rd rs
  | .deul rd rs => operateWord 0o060 rd rs
  | .cl rd rs => operateWord 0o061 rd rs
  | .ll rd rs => operateWord 0o062 rd rs
  | .stl rd rs => operateWord 0o063 rd rs
  | .al rd rs => operateWord 0o064 rd rs
  | .sl rd rs => operateWord 0o065 rd rs
  | .ml rd rs => operateWord 0o066 rd rs
  | .dl rd rs => operateWord 0o067 rd rs
  | .sw rd rs => operateWord 0o070 rd rs
  | .xl rd rs => operateWord 0o071 rd rs
  | .swl rd rs => operateWord 0o072 rd rs
  | .dul rd rs => operateWord 0o073 rd rs
  | .nl rd rs => operateWord 0o074 rd rs
  | .ol rd rs => operateWord 0o075 rd rs
  | .mel rd rs => operateWord 0o076 rd rs
  | .del rd rs => operateWord 0o077 rd rs
  | .swm rd rs => operateWord 0o100 rd rs
  | .cm rd rs => operateWord 0o101 rd rs
  | .lm rd rs => operateWord 0o102 rd rs
  | .stm rd rs => operateWord 0o103 rd rs
  | .am rd rs => operateWord 0o104 rd rs
  | .sm rd rs => operateWord 0o105 rd rs
  | .mm rd rs => operateWord 0o106 rd rs
  | .dm rd rs => operateWord 0o107 rd rs
  | .swf rd rs => operateWord 0o110 rd rs
  | .cf rd rs => operateWord 0o111 rd rs
  | .lf rd rs => operateWord 0o112 rd rs
  | .stf rd rs => operateWord 0o113 rd rs
  | .af rd rs => operateWord 0o114 rd rs
  | .sf rd rs => operateWord 0o115 rd rs
  | .mf rd rs => operateWord 0o116 rd rs
  | .df rd rs => operateWord 0o117 rd rs
  | .swd rd rs => operateWord 0o120 rd rs
  | .cd rd rs => operateWord 0o121 rd rs
  | .ld rd rs => operateWord 0o122 rd rs
  | .std rd rs => operateWord 0o123 rd rs
  | .ad rd rs => operateWord 0o124 rd rs
  | .sd rd rs => operateWord 0o125 rd rs
  | .md rd rs => operateWord 0o126 rd rs
  | .dd rd rs => operateWord 0o127 rd rs
  | .swq rd rs => operateWord 0o130 rd rs
  | .cq rd rs => operateWord 0o131 rd rs
  | .lq rd rs => operateWord 0o132 rd rs
  | .stq rd rs => operateWord 0o133 rd rs
  | .aq rd rs => operateWord 0o134 rd rs
  | .sq rd rs => operateWord 0o135 rd rs
  | .mq rd rs => operateWord 0o136 rd rs
  | .dq rd rs => operateWord 0o137 rd rs
  | .lsllc reg cnt => shiftWord 0o60 reg 0 cnt
  | .lsrlc reg cnt => shiftWord 0o60 reg 1 cnt
  | .rllc reg cnt => shiftWord 0o60 reg 2 cnt
  | .asrlc reg cnt => shiftWord 0o60 reg 3 cnt
  | .lslc reg cnt => shiftWord 0o64 reg 0 cnt
  | .lsrc reg cnt => shiftWord 0o64 reg 1 cnt
  | .rlc reg cnt => shiftWord 0o64 reg 2 cnt
  | .asrc reg cnt => shiftWord 0o64 reg 3 cnt
  | .lslhc reg cnt => shiftWord 0o66 reg 0 cnt
  | .lsrhc reg cnt => shiftWord 0o66 reg 1 cnt
  | .rlhc reg cnt => shiftWord 0o66 reg 2 cnt
  | .asrhc reg cnt => shiftWord 0o66 reg 3 cnt
  | .lslbc reg cnt => shiftByteWord reg 0 cnt
  | .lsrbc reg cnt => shiftByteWord reg 1 cnt
  | .rlbc reg cnt => shiftByteWord reg 2 cnt
  | .asrbc reg cnt => shiftByteWord reg 3 cnt
  | .nop disp => branchWord 0 disp
  | .blr disp => branchWord 1 disp
  | .ber disp => branchWord 2 disp
  | .bler disp => branchWord 3 disp
  | .bhr disp => branchWord 4 disp
  | .bner disp => branchWord 5 disp
  | .bher disp => branchWord 6 disp
  | .b disp => branchWord 7 disp
  | .bm disp => branchWord 9 disp
  | .bz disp => branchWord 10 disp
  | .bmz disp => branchWord 11 disp
  | .bp disp => branchWord 12 disp
  | .bnz disp => branchWord 13 disp
  | .bpz disp => branchWord 14 disp
  | .bnv disp => branchWord 15 disp
  | .bl disp => branchWord 17 disp
  | .be disp => branchWord 18 disp
  | .ble disp => branchWord 19 disp
  | .bh disp => branchWord 20 disp
  | .bne disp => branchWord 21 disp
  | .bhe disp => branchWord 22 disp
  | .bnc disp => branchWord 23 disp
  | .bc disp => branchWord 24 disp
  | .bv disp => branchWord 25 disp
  | .sfc k q => branchWord 34 (flagOperands k q)
  | .cfc k q => branchWord 35 (flagOperands k q)
  | .ctf k q => branchWord 36 (flagOperands k q)
  | .svc code => branchWord 62 code

/-- The instruction the decoder reads from an instruction whose bits are `w`, bit 0 the least significant bit of its
one 18-bit word. A number with a bit above the 18 is no instruction of the class (30_encoding.md R70). -/
def decodeTableWord (_nbits w : Nat) : Option Instr :=
  if w < 2 ^ 18 then decode (BitVec.ofNat 18 w) else none

end Sys2Proof
end

