-- ==== Sys2Proof/Machine/State.lean ====
section
/-! DEFINITION. The state of the machine as plain data, the reasons a step can stop, and the state a run of the model
starts from. -/

namespace Sys2Proof.Machine

/-- The condition codes: three relations and two bits (10_state.md R28, R29). -/
structure CC where
  /-- read by the raw branch group -/
  raw : Leh
  /-- read by the signed branch group -/
  sgn : Mzp
  /-- read by the unsigned branch group -/
  uns : Leh
  /-- the overflow bit -/
  v : Bool
  /-- the carry -/
  c : Bool
deriving DecidableEq, Repr

/-- The program counter: the byte address of the container being executed and the index of the embedded instruction
about to be executed (10_state.md R36). -/
structure PC where
  ca : Nat
  slot : Nat
deriving DecidableEq, Repr

/-- The processor's mode; no instruction of the class reads or changes it (10_state.md R41, 60_exceptions.md R350). -/
inductive Mode where
  | supervisor
  | other
deriving DecidableEq, Repr

/-- `Text`: the containers of the instruction address space by their byte address, in one canonical form, addresses
strictly rising. An address not listed holds no container (10_state.md R37, 20_memory.md R51). There is no data memory
(20_memory.md R50) and the container's bytes are not modelled (30_encoding.md R80). -/
abbrev Memory := List (Nat × Container)

/-- The state of the machine (10_state.md R45). -/
structure State where
  /-- the integer registers `x[0] .. x[NIREG-1]`; `NIREG` is the length (10_state.md R20) -/
  x : List XVal
  /-- the floating-point registers `f[0] .. f[NFREG-1]`; `NFREG` is the length (10_state.md R25, R26) -/
  f : List FVal
  /-- the condition codes (10_state.md R28) -/
  cc : CC
  /-- the predicate flags `pf[0] .. pf[NFLAGS-1]`; `NFLAGS` is the length (10_state.md R33) -/
  pf : List Bool
  /-- the program counter (10_state.md R36) -/
  pc : PC
  /-- the mode (10_state.md R41) -/
  mode : Mode
  /-- the program text, fixed for a run (10_state.md R37) -/
  text : Memory
  /-- the parameters, fixed for a machine (00_scope.md R7, R8) -/
  par : Params
  /-- the MODEL's own field: how many times a rule has drawn an `any` value (00_scope.md R15) -/
  draws : Nat
deriving DecidableEq, Repr

/-- The named outcomes that end a run on an instruction the model gives no result to (60_exceptions.md R341). Every one
is raised before the instruction writes anything (R343), and stopping is safe: the source does not say what the
hardware does, and no claim about what follows can be proved. -/
inductive Fault where
  /-- `ReservedInstruction(w)`: the step, for a word that decodes to no instruction, and the shift, rotate and flag
  instructions for an operand the encoding reserves (30_encoding.md R95 to R98). Safe. -/
  | reservedInstruction (w : Word)
  /-- `RegisterSpecification(w)`: the operate, shift and rotate instructions, for a register number outside the file or
  an odd register where an even one is required (00_scope.md R17). Safe. -/
  | registerSpecification (w : Word)
  /-- `DivideByZero(w)`: the fourteen integer divide instructions, for a divisor of zero (40_integer_operate.md R121,
  R122, R126, R127). Safe. -/
  | divideByZero (w : Word)
  /-- `DivideOverflow(w)`: the seven signed divide instructions, for a quotient that does not fit (40_integer_operate.md
  R121, R126). Safe. -/
  | divideOverflow (w : Word)
deriving DecidableEq, Repr

/-- The named outcomes by which the model hands the run to what the spec leaves outside it (60_exceptions.md R341;
93_implementation_defined.md, treatment `refuse`). -/
inductive Refusal where
  /-- `LeftScope(addr)`: the fetch, when no container stands at the address (10_state.md R38). Safe. -/
  | leftScope (addr : Nat)
  /-- `SupervisorCall(code)`: SVC, always; the state is the one before it and the environment takes over
  (44_flag_svc.md R327, R328). Safe. -/
  | supervisorCall (code : BitVec 8)
  /-- The fetch, in a state no run reaches from a launch state: the container at the address has no such slot
  (10_state.md R38 calls `slot < n` an invariant). Safe. -/
  | noSuchSlot (addr slot : Nat)
  /-- `exec`, for an instruction that has no meaning in the model yet. Safe. -/
  | notModelled (mnemonic : String)
deriving DecidableEq, Repr

/-- The state a run of the model starts from when nothing has launched one. The source gives no reset value for any
piece of state (10_state.md R44, 70_reset_and_hazards.md R371): every value here is a DESIGN CHOICE named in
notes/assumptions/3.md, and the parameters are the reference instantiation. No program is loaded. -/
def State.reset : State where
  x := List.replicate 8 0
  f := List.replicate 8 (FVal.ofQuad 0)
  cc := { raw := .equal, sgn := .zero, uns := .equal, v := false, c := false }
  pf := List.replicate 8 false
  pc := { ca := 0, slot := 0 }
  mode := .supervisor
  text := []
  par := refParams
  draws := 0

end Sys2Proof.Machine
end

