-- ==== Sys2Proof/Machine/Flags.lean ====
section
/-! DEFINITION. What COMPARE writes into the condition codes and what a condition number tests of them. -/

namespace Sys2Proof.Machine

/-- The signed order of two operands, destination against source (40_integer_operate.md R119). -/
def signedOrder {n : Nat} (a b : BitVec n) : Mzp :=
  if a.toInt < b.toInt then .minus else if a = b then .zero else .plus

/-- The unsigned order of two operands, destination against source (40_integer_operate.md R119). -/
def unsignedOrder {n : Nat} (a b : BitVec n) : Leh :=
  if a.toNat < b.toNat then .low else if a = b then .equal else .high

/-- The condition codes after an integer COMPARE: both orders, overflow clear, `cc.raw` and `cc.c` any value of this
draw (40_integer_operate.md R119, 10_state.md R31). -/
def compareCC {n : Nat} (draw : Nat) (a b : BitVec n) : CC where
  raw := Config.cmpRaw draw n a.toNat b.toNat
  sgn := signedOrder a b
  uns := unsignedOrder a b
  v := false
  c := Config.cmpCarry draw n a.toNat b.toNat

/-- `cc.sgn` after a floating-point COMPARE: the order `FNUM.cmp` gives, else any value (41_float_operate.md R213). -/
def floatOrder (draw : Nat) (t : FType) (a b : FVal) : Mzp :=
  match Config.fnumCmp t a b with
  | .minus => .minus
  | .zero => .zero
  | .plus => .plus
  | .unordered => Config.fcmpSgn draw t a b

/-- The condition codes after a floating-point COMPARE (41_float_operate.md R213). -/
def floatCompareCC (draw : Nat) (t : FType) (a b : FVal) : CC where
  raw := Config.fcmpRaw draw t a b
  sgn := floatOrder draw t a b
  uns := Config.fcmpUns draw t a b
  v := Config.fcmpV draw t a b
  c := Config.fcmpC draw t a b

/-- The mask bit that selects an outcome: Low at value 1, Equal at 2, High at 4 (43_branch.md R282). -/
def lehBit : Leh → Nat
  | .low => 0
  | .equal => 1
  | .high => 2

/-- The mask bit that selects an outcome: Minus at value 1, Zero at 2, Plus at 4 (43_branch.md R282). -/
def mzpBit : Mzp → Nat
  | .minus => 0
  | .zero => 1
  | .plus => 2

/-- `holds(cn, cc)`: the group is `cn[4:3]`, the outcome mask `cn[2:0]` (43_branch.md R282). It is asked only of the 24
listed numbers; of the others it answers false. -/
def holds (cn : BitVec 5) (cc : CC) : Bool :=
  let mask := cn.extractLsb' 0 3
  match (cn.extractLsb' 3 2).toNat with
  | 0 => if mask = 7#3 then true else mask.getLsbD (lehBit cc.raw)
  | 1 => if mask = 7#3 then !cc.v else mask.getLsbD (mzpBit cc.sgn)
  | 2 => if mask = 7#3 then !cc.c else mask.getLsbD (lehBit cc.uns)
  | _ => if mask = 0#3 then cc.c else if mask = 1#3 then cc.v else false

end Sys2Proof.Machine
end

