-- ==== Sys2Proof/Machine/Ops.lean ====
section
/-! DEFINITION. The named operations over the state: registers, flags, containers, fetch, sequential advance and taken
branch, the model outcomes (the spec's whole account of taking an exception), and the shared shapes of the instruction
meanings. -/

namespace Sys2Proof.Machine

/-- What a meaning answers. -/
abbrev Result := Host.Outcome State Fault Refusal

/-! ### Registers and flags -/

/-- `NIREG` (00_scope.md R7). -/
def State.nireg (s : State) : Nat :=
  s.x.length

/-- `NFREG` (00_scope.md R7). -/
def State.nfreg (s : State) : Nat :=
  s.f.length

/-- `NFLAGS` (00_scope.md R7). -/
def State.nflags (s : State) : Nat :=
  s.pf.length

/-- Reads `x[n]`; asked only of a register of the file (00_scope.md R13). -/
def State.readX (s : State) (n : Nat) : XVal :=
  s.x.getD n 0

/-- Writes `x[n]` (00_scope.md R13). -/
def State.writeX (s : State) (n : Nat) (v : XVal) : State :=
  { s with x := s.x.set n v }

/-- Reads `f[n]`; asked only of a register of the file (00_scope.md R13). -/
def State.readF (s : State) (n : Nat) : FVal :=
  s.f.getD n default

/-- Writes `f[n]` (00_scope.md R13). -/
def State.writeF (s : State) (n : Nat) (v : FVal) : State :=
  { s with f := s.f.set n v }

/-- Reads `pf[k]`; asked only of a flag the machine has (00_scope.md R13). -/
def State.readFlag (s : State) (k : Nat) : Bool :=
  s.pf.getD k false

/-- Writes `pf[k]` (10_state.md R34). -/
def State.writeFlag (s : State) (k : Nat) (b : Bool) : State :=
  { s with pf := s.pf.set k b }

/-- Writes all five fields of `cc` and spends one draw of the `any` values (10_state.md R30, 00_scope.md R15). -/
def State.writeCC (s : State) (cc : CC) : State :=
  { s with cc := cc, draws := s.draws + 1 }

/-! ### The program text -/

/-- The length in bits of a container of `n` embedded instructions (30_encoding.md R77). -/
def containerLen (n : Nat) : Option Nat :=
  match n with
  | 2 => some 48
  | 3 => some 64
  | 4 => some 80
  | 5 => some 112
  | 6 => some 128
  | 7 => some 144
  | 8 => some 160
  | 9 => some 176
  | 10 => some 192
  | 11 => some 208
  | 12 => some 224
  | 13 => some 256
  | 14 => some 272
  | 15 => some 288
  | _ => none

/-- A container has a length of the table and the number of words the table gives for it (10_state.md R37). -/
abbrev Container.wf (c : Container) : Prop :=
  containerLen c.words.length = some c.len

/-- `Text(a)`: the container that starts at `a`, if one does (10_state.md R37). -/
def Memory.lookup (a : Nat) : Memory → Option Container
  | [] => none
  | (b, c) :: m => if a = b then some c else Memory.lookup a m

/-- Puts a container at an address, in place of one that stands there. No instruction does this: it is how a program is
placed from outside (70_reset_and_hazards.md R372). -/
def Memory.place (a : Nat) (c : Container) : Memory → Memory
  | [] => [(a, c)]
  | (b, e) :: m =>
    if a < b then (a, c) :: (b, e) :: m
    else if a = b then (a, c) :: m
    else (b, e) :: Memory.place a c m

/-- The canonical form of the text: addresses strictly rising, every container well formed (10_state.md R37,
70_reset_and_hazards.md R373). -/
abbrev Memory.wf (m : Memory) : Prop :=
  (m.map Prod.fst).Pairwise (· < ·) ∧ ∀ e ∈ m, e.2.wf

/-- `Text(ca)` for the container the program counter names. Where there is none the empty container stands, which no
step meets: the fetch has already ended the run (10_state.md R38). -/
def State.container (s : State) : Container :=
  (s.text.lookup s.pc.ca).getD { len := 0, words := [] }

/-- `end(ca)`: the byte address immediately following the container (10_state.md R37). -/
def State.endAddr (s : State) : Nat :=
  wrapAddr s.par (s.pc.ca + s.container.len / 8)

/-- Where `next(pc)` leads: the next slot, or slot 0 of what follows the container (10_state.md R39). -/
def State.nextPC (s : State) : PC :=
  if s.pc.slot + 1 < s.container.words.length then { ca := s.pc.ca, slot := s.pc.slot + 1 }
  else { ca := s.endAddr, slot := 0 }

/-- `next(pc)`, by which every instruction that takes no branch ends (10_state.md R39). -/
def State.advance (s : State) : State :=
  { s with pc := s.nextPC }

/-- The target of a taken branch: the end of the container plus four times the signed displacement, wrapping
(43_branch.md R284). -/
def State.branchTarget (s : State) (disp : BitVec 8) : Nat :=
  wrapAddr s.par (s.endAddr + 4 * disp.toInt)

/-- A taken branch: slot 0 of the container at the target (43_branch.md R284). -/
def State.jump (s : State) (disp : BitVec 8) : State :=
  { s with pc := { ca := s.branchTarget disp, slot := 0 } }

/-- `Fetch(pc)`: the word in the slot, or the refusal that ends the run (10_state.md R38). -/
def State.fetch (s : State) : Except Refusal Word :=
  match s.text.lookup s.pc.ca with
  | none => .error (.leftScope s.pc.ca)
  | some c =>
    match c.words[s.pc.slot]? with
    | none => .error (.noSuchSlot s.pc.ca s.pc.slot)
    | some w => .ok w

/-- The word the program counter names, which an outcome of the instruction being executed records (60_exceptions.md R341,
R343). Where it names none, which no step meets, 0 stands (notes/assumptions/15.md). -/
def State.word (s : State) : Word :=
  match s.fetch with
  | .ok w => w
  | .error _ => 0

/-- Decoding by the machine's own operand layouts (30_encoding.md R72, 00_scope.md R7). -/
def State.decodeWord (s : State) (w : Word) : Option Instr :=
  decodeWith (Layouts.ofTable s.par.layouts) w

/-! ### The model outcomes: what the spec has of taking an exception -/

/-- `raise K(info)`: the instruction writes nothing and the run ends with the outcome; no trap is entered, nothing is
saved and control goes nowhere (00_scope.md R15, 60_exceptions.md R341, R343, R347). -/
def raise (k : Fault) : Result :=
  .fault k

/-- `raise SupervisorCall(code)`: the run ends and the environment takes over (44_flag_svc.md R327, R328). -/
def raiseCall (code : BitVec 8) : Result :=
  .refused (.supervisorCall code)

/-- The launch state from which the environment conventionally resumes a run that ended in SVC at `s`, before it adds
what the service changed: `pc` advanced by `next(pc)`. The convention is the spec's, not the source's, and no step takes
it (44_flag_svc.md R328, 60_exceptions.md R348). -/
def State.resumeAfterCall (s : State) : State :=
  s.advance

/-! ### The shared shapes of the meanings -/

/-- The register-number checks, made before anything is written: every register named is in the file, and the
destination is even where one is required (00_scope.md R17, 60_exceptions.md R346). -/
def checkRegs (s : State) (size : Nat) (regs : List Nat) (even : Bool) (k : Result) : Result :=
  if regs.all (fun n => decide (n < size)) && even then k else raise (.registerSpecification s.word)

/-- An integer operate instruction that computes an `n`-bit value of the two locations and fills the destination
register with it (40_integer_operate.md R111, R112, R129). -/
def intResult (n : Nat) (e : Ext) (f : BitVec n → BitVec n → BitVec n) (rd rs : Nat) (s : State) : Result :=
  checkRegs s s.nireg [rd, rs] true
    (.next (s.writeX rd (extend e (s.readX rd) (f (lo n (s.readX rd)) (lo n (s.readX rs))))).advance)

/-- SWAP: both locations exchanged, both read first (40_integer_operate.md R124). -/
def intSwap (n : Nat) (rd rs : Nat) (s : State) : Result :=
  let e := upperExt s.par.swUpper
  checkRegs s s.nireg [rd, rs] true
    (.next ((s.writeX rd (extend e (s.readX rd) (lo n (s.readX rs)))).writeX rs
      (extend e (s.readX rs) (lo n (s.readX rd)))).advance)

/-- COMPARE: writes the condition codes and no register (40_integer_operate.md R119). -/
def intCompare (n : Nat) (rd rs : Nat) (s : State) : Result :=
  checkRegs s s.nireg [rd, rs] true
    (.next (s.writeCC (compareCC s.draws (lo n (s.readX rd)) (lo n (s.readX rs)))).advance)

/-- DIVIDE: the quotient truncated toward zero; a zero divisor and the quotient `2^(N-1)` end the run
(40_integer_operate.md R121). -/
def intDivide (n : Nat) (rd rs : Nat) (s : State) : Result :=
  let ops := divOperands s.par.divOrder (lo n (s.readX rd)).toInt (lo n (s.readX rs)).toInt
  let q := (divmag ops.1 ops.2).1
  checkRegs s s.nireg [rd, rs] true
    (if ops.2 = 0 then raise (.divideByZero s.word)
     else if q = 2 ^ (n - 1) then raise (.divideOverflow s.word)
     else .next (s.writeX rd (extend s.par.narrowExt (s.readX rd) (BitVec.ofInt n q))).advance)

/-- DIVIDE UNSIGNED: a zero divisor ends the run; there is no overflow (40_integer_operate.md R122). -/
def intDivideUnsigned (n : Nat) (rd rs : Nat) (s : State) : Result :=
  let ops := divOperands s.par.divOrder (lo n (s.readX rd)).toNat (lo n (s.readX rs)).toNat
  checkRegs s s.nireg [rd, rs] true
    (if ops.2 = 0 then raise (.divideByZero s.word)
     else .next (s.writeX rd (extend s.par.uext (s.readX rd) (BitVec.ofNat n (udiv ops.1 ops.2).1))).advance)

/-- MULTIPLY EXTENSIBLY, halfword and integer: the full signed product, sign-extended to the register
(40_integer_operate.md R125). -/
def mulExtend (n : Nat) (rd rs : Nat) (s : State) : Result :=
  let p := BitVec.ofInt (2 * n) ((lo n (s.readX rd)).toInt * (lo n (s.readX rs)).toInt)
  checkRegs s s.nireg [rd, rs] true (.next (s.writeX rd (p.signExtend 64)).advance)

/-- MULTIPLY EXTENSIBLY LONG: the 128-bit signed product in an even register and the one following
(40_integer_operate.md R125). -/
def mulExtendLong (rd rs : Nat) (s : State) : Result :=
  let p := BitVec.ofInt 128 ((s.readX rd).toInt * (s.readX rs).toInt)
  checkRegs s s.nireg [rd, rs, rd + 1] (rd % 2 == 0)
    (.next ((s.writeX rd (highHalf p)).writeX (rd + 1) (lowHalf p)).advance)

/-- DIVIDE EXTENSIBLY, halfword and integer: the `2N`-bit dividend is in the destination, the quotient goes back to it
and the remainder to the register following (40_integer_operate.md R126). -/
def divExtend (n : Nat) (rd rs : Nat) (s : State) : Result :=
  let a := (lo (2 * n) (s.readX rd)).toInt
  let b := (lo n (s.readX rs)).toInt
  let q := (divmag a b).1
  checkRegs s s.nireg [rd, rs, rd + 1] true
    (if b = 0 then raise (.divideByZero s.word)
     else if q = 2 ^ (2 * n - 1) then raise (.divideOverflow s.word)
     else .next ((s.writeX rd ((BitVec.ofInt (2 * n) q).signExtend 64)).writeX (rd + 1)
       ((BitVec.ofInt n (divmag a b).2).signExtend 64)).advance)

/-- The 128-bit value of a register pair, the most significant half in the first (40_integer_operate.md R126). -/
def State.readPair (s : State) (n : Nat) : BitVec 128 :=
  s.readX n ++ s.readX (n + 1)

/-- DIVIDE EXTENSIBLY LONG: the dividend is the pair, the quotient goes back to it and the remainder to the register
after it (40_integer_operate.md R126). -/
def divExtendLong (rd rs : Nat) (s : State) : Result :=
  let a := (s.readPair rd).toInt
  let b := (s.readX rs).toInt
  let q := (divmag a b).1
  let qb := BitVec.ofInt 128 q
  checkRegs s s.nireg [rd, rs, rd + 1, rd + 2] (rd % 2 == 0)
    (if b = 0 then raise (.divideByZero s.word)
     else if q = 2 ^ 127 then raise (.divideOverflow s.word)
     else .next (((s.writeX rd (highHalf qb)).writeX (rd + 1) (lowHalf qb)).writeX (rd + 2)
       (BitVec.ofInt 64 (divmag a b).2)).advance)

/-- DIVIDE EXTENSIBLY UNSIGNED, halfword and integer: as the signed form with unsigned operands, the results filling
their registers by `UEXT` (40_integer_operate.md R127). -/
def divExtendUnsigned (n : Nat) (rd rs : Nat) (s : State) : Result :=
  let a := (lo (2 * n) (s.readX rd)).toNat
  let b := (lo n (s.readX rs)).toNat
  checkRegs s s.nireg [rd, rs, rd + 1] true
    (if b = 0 then raise (.divideByZero s.word)
     else .next ((s.writeX rd (extend s.par.uext (s.readX rd) (BitVec.ofNat (2 * n) (udiv a b).1))).writeX (rd + 1)
       (extend s.par.uext (s.readX (rd + 1)) (BitVec.ofNat n (udiv a b).2))).advance)

/-- DIVIDE EXTENSIBLY UNSIGNED LONG (40_integer_operate.md R127). -/
def divExtendUnsignedLong (rd rs : Nat) (s : State) : Result :=
  let a := (s.readPair rd).toNat
  let b := (s.readX rs).toNat
  let qb := BitVec.ofNat 128 (udiv a b).1
  checkRegs s s.nireg [rd, rs, rd + 1, rd + 2] (rd % 2 == 0)
    (if b = 0 then raise (.divideByZero s.word)
     else .next (((s.writeX rd (highHalf qb)).writeX (rd + 1) (lowHalf qb)).writeX (rd + 2)
       (BitVec.ofNat 64 (udiv a b).2)).advance)

/-- A floating-point operate instruction that writes its destination with a value of the old destination and the source
(41_float_operate.md R207, R215). -/
def floatResult (f : FVal → FVal → FVal) (rd rs : Nat) (s : State) : Result :=
  checkRegs s s.nfreg [rd, rs] true (.next (s.writeF rd (f (s.readF rd) (s.readF rs))).advance)

/-- Floating-point SWAP: both registers written, both read first; when they are one register it receives the first
component (41_float_operate.md R211). -/
def floatSwapRegs (t : FType) (rd rs : Nat) (s : State) : Result :=
  let p := floatSwap s.par t (s.readF rd) (s.readF rs)
  checkRegs s s.nfreg [rd, rs] true (.next ((s.writeF rs p.2).writeF rd p.1).advance)

/-- Floating-point COMPARE: writes the condition codes and no register (41_float_operate.md R213). -/
def floatCompare (t : FType) (rd rs : Nat) (s : State) : Result :=
  checkRegs s s.nfreg [rd, rs] true
    (.next (s.writeCC (floatCompareCC s.draws t (s.readF rd) (s.readF rs))).advance)

/-- A shift or rotate of the low `n` bits of one register by a constant count: the count is checked first, then the
register number (42_shift_rotate.md R251, R252, R260). -/
def shiftReg (n : Nat) (f : BitVec n → Nat → BitVec n) (reg cnt : Nat) (s : State) : Result :=
  if n ≤ cnt then raise (.reservedInstruction s.word)
  else checkRegs s s.nireg [reg] true
    (.next (s.writeX reg (extend s.par.narrowExt (s.readX reg) (f (lo n (s.readX reg)) cnt))).advance)

/-- A branch with condition number `cn`: taken or in sequence (43_branch.md R282, R284, R285). -/
def branchOn (cn : BitVec 5) (disp : BitVec 8) (s : State) : Result :=
  .next (if holds cn s.cc then s.jump disp else s.advance)

/-- A flag instruction: its checks, then the flag's new value computed from the truth of the condition and the old value
(44_flag_svc.md R321, R325). -/
def flagOn (f : Bool → Bool → Bool) (k : Nat) (q : BitVec 5) (s : State) : Result :=
  if listedCond q && decide (k < s.nflags) then .next (s.writeFlag k (f (holds q s.cc) (s.readFlag k))).advance
  else raise (.reservedInstruction s.word)

end Sys2Proof.Machine
end

