-- ==== Sys2Proof/Machine/Branch.lean ====
section
/-! DEFINITION. The 24 branch instructions, NOP among them, each with its condition number (43_branch.md section 2). -/

namespace Sys2Proof.Machine

/-- NOP, No Operation: the displacement bits are ignored (R287). -/
def execNop (_disp : BitVec 8) (s : State) : Result :=
  .next s.advance

/-- BLR, Branch if Low Raw: condition number 1 (R288, by R282, R284, R285). -/
def execBlr (disp : BitVec 8) (s : State) : Result :=
  branchOn 1#5 disp s

/-- BER, Branch if Equal Raw: condition number 2 (R289, by R282, R284, R285). -/
def execBer (disp : BitVec 8) (s : State) : Result :=
  branchOn 2#5 disp s

/-- BLER, Branch if Low or Equal Raw: condition number 3 (R290, by R282, R284, R285). -/
def execBler (disp : BitVec 8) (s : State) : Result :=
  branchOn 3#5 disp s

/-- BHR, Branch if High Raw: condition number 4 (R291, by R282, R284, R285). -/
def execBhr (disp : BitVec 8) (s : State) : Result :=
  branchOn 4#5 disp s

/-- BNER, Branch if Not Equal Raw: condition number 5 (R292, by R282, R284, R285). -/
def execBner (disp : BitVec 8) (s : State) : Result :=
  branchOn 5#5 disp s

/-- BHER, Branch if High or Equal Raw: condition number 6 (R293, by R282, R284, R285). -/
def execBher (disp : BitVec 8) (s : State) : Result :=
  branchOn 6#5 disp s

/-- B, Branch: condition number 7 (R294, by R282, R284, R285). -/
def execB (disp : BitVec 8) (s : State) : Result :=
  branchOn 7#5 disp s

/-- BM, Branch if Minus: condition number 9 (R295, by R282, R284, R285). -/
def execBm (disp : BitVec 8) (s : State) : Result :=
  branchOn 9#5 disp s

/-- BZ, Branch if Zero: condition number 10 (R296, by R282, R284, R285). -/
def execBz (disp : BitVec 8) (s : State) : Result :=
  branchOn 10#5 disp s

/-- BMZ, Branch if Minus or Zero: condition number 11 (R297, by R282, R284, R285). -/
def execBmz (disp : BitVec 8) (s : State) : Result :=
  branchOn 11#5 disp s

/-- BP, Branch if Plus: condition number 12 (R298, by R282, R284, R285). -/
def execBp (disp : BitVec 8) (s : State) : Result :=
  branchOn 12#5 disp s

/-- BNZ, Branch if Not Zero: condition number 13 (R299, by R282, R284, R285). -/
def execBnz (disp : BitVec 8) (s : State) : Result :=
  branchOn 13#5 disp s

/-- BPZ, Branch if Plus or Zero: condition number 14 (R300, by R282, R284, R285). -/
def execBpz (disp : BitVec 8) (s : State) : Result :=
  branchOn 14#5 disp s

/-- BNV, Branch if No Overflow: condition number 15 (R301, by R282, R284, R285). -/
def execBnv (disp : BitVec 8) (s : State) : Result :=
  branchOn 15#5 disp s

/-- BL, Branch if Low: condition number 17 (R302, by R282, R284, R285). -/
def execBl (disp : BitVec 8) (s : State) : Result :=
  branchOn 17#5 disp s

/-- BE, Branch if Equal: condition number 18 (R303, by R282, R284, R285). -/
def execBe (disp : BitVec 8) (s : State) : Result :=
  branchOn 18#5 disp s

/-- BLE, Branch if Low or Equal: condition number 19 (R304, by R282, R284, R285). -/
def execBle (disp : BitVec 8) (s : State) : Result :=
  branchOn 19#5 disp s

/-- BH, Branch if High: condition number 20 (R305, by R282, R284, R285). -/
def execBh (disp : BitVec 8) (s : State) : Result :=
  branchOn 20#5 disp s

/-- BNE, Branch if Not Equal: condition number 21 (R306, by R282, R284, R285). -/
def execBne (disp : BitVec 8) (s : State) : Result :=
  branchOn 21#5 disp s

/-- BHE, Branch if High or Equal: condition number 22 (R307, by R282, R284, R285). -/
def execBhe (disp : BitVec 8) (s : State) : Result :=
  branchOn 22#5 disp s

/-- BNC, Branch if No Carry: condition number 23 (R308, by R282, R284, R285). -/
def execBnc (disp : BitVec 8) (s : State) : Result :=
  branchOn 23#5 disp s

/-- BC, Branch if Carry: condition number 24 (R309, by R282, R284, R285). -/
def execBc (disp : BitVec 8) (s : State) : Result :=
  branchOn 24#5 disp s

/-- BV, Branch if Overflow: condition number 25 (R310, by R282, R284, R285). -/
def execBv (disp : BitVec 8) (s : State) : Result :=
  branchOn 25#5 disp s

end Sys2Proof.Machine
end

