-- ==== Sys2Proof/Machine/FlagSvc.lean ====
section
/-! DEFINITION. The three predicate-flag instructions and the supervisor call (44_flag_svc.md). In a flag operation the
first argument is the truth of the condition, the second the flag's old value. -/

namespace Sys2Proof.Machine

/-- SFC, Set Flag on Condition: set if the condition is met, else unaffected (R322). -/
def execSfc (k : Nat) (q : BitVec 5) (s : State) : Result :=
  flagOn (fun met old => met || old) k q s

/-- CFC, Clear Flag on Condition: cleared if the condition is met, else unaffected (R323). -/
def execCfc (k : Nat) (q : BitVec 5) (s : State) : Result :=
  flagOn (fun met old => !met && old) k q s

/-- CTF, Condition to Flag: the flag becomes the truth of the condition (R324). -/
def execCtf (k : Nat) (q : BitVec 5) (s : State) : Result :=
  flagOn (fun met _ => met) k q s

/-- SVC, Supervisor Call: writes nothing and ends the run with the outcome `SupervisorCall(code)` (R327, R345). The
source describes none of the interrupt it is equivalent to (R328, R347). -/
def execSvc (code : BitVec 8) (_s : State) : Result :=
  raiseCall code

end Sys2Proof.Machine
end

