-- ==== Sys2Proof/Machine/Float.lean ====
section
/-! DEFINITION. The 32 floating-point operate instructions, in the order of 41_float_operate.md section 3. Every value
comes from the numerics record; the instructions fix which register is read and which is written. -/

namespace Sys2Proof.Machine

/-- SWM, SWAP MEDIUM (R216, by R211). -/
def execSwm (rd rs : Nat) (s : State) : Result :=
  floatSwapRegs .medium rd rs s

/-- SWF, SWAP FLOATING (R217, by R211). -/
def execSwf (rd rs : Nat) (s : State) : Result :=
  floatSwapRegs .floating rd rs s

/-- SWD, SWAP DOUBLE (R218, by R211). -/
def execSwd (rd rs : Nat) (s : State) : Result :=
  floatSwapRegs .double rd rs s

/-- SWQ, SWAP QUAD (R219, by R211). -/
def execSwq (rd rs : Nat) (s : State) : Result :=
  floatSwapRegs .quad rd rs s

/-- CM, COMPARE MEDIUM (R220, by R213). -/
def execCm (rd rs : Nat) (s : State) : Result :=
  floatCompare .medium rd rs s

/-- CF, COMPARE FLOATING (R221, by R213). -/
def execCf (rd rs : Nat) (s : State) : Result :=
  floatCompare .floating rd rs s

/-- CD, COMPARE DOUBLE (R222, by R213). -/
def execCd (rd rs : Nat) (s : State) : Result :=
  floatCompare .double rd rs s

/-- CQ, COMPARE QUAD (R223, by R213). -/
def execCq (rd rs : Nat) (s : State) : Result :=
  floatCompare .quad rd rs s

/-- LM, LOAD MEDIUM (R224, by R209). -/
def execLm (rd rs : Nat) (s : State) : Result :=
  floatResult (fun _ b => floatLoad s.par .medium b) rd rs s

/-- LF, LOAD FLOATING (R225, by R209). -/
def execLf (rd rs : Nat) (s : State) : Result :=
  floatResult (fun _ b => floatLoad s.par .floating b) rd rs s

/-- LD, LOAD DOUBLE (R226, by R209). -/
def execLd (rd rs : Nat) (s : State) : Result :=
  floatResult (fun _ b => floatLoad s.par .double b) rd rs s

/-- LQ, LOAD QUAD (R227, by R209). -/
def execLq (rd rs : Nat) (s : State) : Result :=
  floatResult (fun _ b => floatLoad s.par .quad b) rd rs s

/-- STM, STORE MEDIUM (R228, by R210). -/
def execStm (rd rs : Nat) (s : State) : Result :=
  floatResult (fun a b => floatStore s.par .medium a b) rd rs s

/-- STF, STORE FLOATING (R229, by R210). -/
def execStf (rd rs : Nat) (s : State) : Result :=
  floatResult (fun a b => floatStore s.par .floating a b) rd rs s

/-- STD, STORE DOUBLE (R230, by R210). -/
def execStd (rd rs : Nat) (s : State) : Result :=
  floatResult (fun a b => floatStore s.par .double a b) rd rs s

/-- STQ, STORE QUAD (R231, by R210). -/
def execStq (rd rs : Nat) (s : State) : Result :=
  floatResult (fun a b => floatStore s.par .quad a b) rd rs s

/-- AM, ADD MEDIUM (R232, by R212). -/
def execAm (rd rs : Nat) (s : State) : Result :=
  floatResult (fun a b => Config.fnumAdd .medium a b) rd rs s

/-- AF, ADD FLOATING (R233, by R212). -/
def execAf (rd rs : Nat) (s : State) : Result :=
  floatResult (fun a b => Config.fnumAdd .floating a b) rd rs s

/-- AD, ADD DOUBLE (R234, by R212). -/
def execAd (rd rs : Nat) (s : State) : Result :=
  floatResult (fun a b => Config.fnumAdd .double a b) rd rs s

/-- AQ, ADD QUAD (R235, by R212). -/
def execAq (rd rs : Nat) (s : State) : Result :=
  floatResult (fun a b => Config.fnumAdd .quad a b) rd rs s

/-- SM, SUBTRACT MEDIUM (R236, by R212). -/
def execSm (rd rs : Nat) (s : State) : Result :=
  floatResult (fun a b => Config.fnumSub .medium a b) rd rs s

/-- SF, SUBTRACT FLOATING (R237, by R212). -/
def execSf (rd rs : Nat) (s : State) : Result :=
  floatResult (fun a b => Config.fnumSub .floating a b) rd rs s

/-- SD, SUBTRACT DOUBLE (R238, by R212). -/
def execSd (rd rs : Nat) (s : State) : Result :=
  floatResult (fun a b => Config.fnumSub .double a b) rd rs s

/-- SQ, SUBTRACT QUAD (R239, by R212). -/
def execSq (rd rs : Nat) (s : State) : Result :=
  floatResult (fun a b => Config.fnumSub .quad a b) rd rs s

/-- MM, MULTIPLY MEDIUM (R240, by R212). -/
def execMm (rd rs : Nat) (s : State) : Result :=
  floatResult (fun a b => Config.fnumMul .medium a b) rd rs s

/-- MF, MULTIPLY FLOATING (R241, by R212). -/
def execMf (rd rs : Nat) (s : State) : Result :=
  floatResult (fun a b => Config.fnumMul .floating a b) rd rs s

/-- MD, MULTIPLY DOUBLE (R242, by R212). -/
def execMd (rd rs : Nat) (s : State) : Result :=
  floatResult (fun a b => Config.fnumMul .double a b) rd rs s

/-- MQ, MULTIPLY QUAD (R243, by R212). -/
def execMq (rd rs : Nat) (s : State) : Result :=
  floatResult (fun a b => Config.fnumMul .quad a b) rd rs s

/-- DM, DIVIDE MEDIUM (R244, by R212). -/
def execDm (rd rs : Nat) (s : State) : Result :=
  floatResult (fun a b => floatDiv s.par .medium a b) rd rs s

/-- DF, DIVIDE FLOATING (R245, by R212). -/
def execDf (rd rs : Nat) (s : State) : Result :=
  floatResult (fun a b => floatDiv s.par .floating a b) rd rs s

/-- DD, DIVIDE DOUBLE (R246, by R212). -/
def execDd (rd rs : Nat) (s : State) : Result :=
  floatResult (fun a b => floatDiv s.par .double a b) rd rs s

/-- DQ, DIVIDE QUAD (R247, by R212). -/
def execDq (rd rs : Nat) (s : State) : Result :=
  floatResult (fun a b => floatDiv s.par .quad a b) rd rs s

end Sys2Proof.Machine
end

