-- ==== Sys2Proof/Machine/Integer.lean ====
section
/-! DEFINITION. The 63 integer operate instructions, in the order of 40_integer_operate.md section 2. Each is its own
definition over a shared shape of Ops.lean. -/

namespace Sys2Proof.Machine

/-- MB, MULTIPLY BYTE (R130, by R120). -/
def execMb (rd rs : Nat) (s : State) : Result :=
  intResult 8 .sign (fun a b => a * b) rd rs s

/-- MH, MULTIPLY HALFWORD (R131, by R120). -/
def execMh (rd rs : Nat) (s : State) : Result :=
  intResult 16 .sign (fun a b => a * b) rd rs s

/-- M, MULTIPLY INTEGER (R132, by R120). -/
def execM (rd rs : Nat) (s : State) : Result :=
  intResult 32 .sign (fun a b => a * b) rd rs s

/-- ML, MULTIPLY LONG (R133, by R120). -/
def execMl (rd rs : Nat) (s : State) : Result :=
  intResult 64 .sign (fun a b => a * b) rd rs s

/-- DB, DIVIDE BYTE (R134, by R121). -/
def execDb (rd rs : Nat) (s : State) : Result :=
  intDivide 8 rd rs s

/-- DH, DIVIDE HALFWORD (R135, by R121). -/
def execDh (rd rs : Nat) (s : State) : Result :=
  intDivide 16 rd rs s

/-- D, DIVIDE INTEGER (R136, by R121). -/
def execD (rd rs : Nat) (s : State) : Result :=
  intDivide 32 rd rs s

/-- DL, DIVIDE LONG (R137, by R121). -/
def execDl (rd rs : Nat) (s : State) : Result :=
  intDivide 64 rd rs s

/-- LB, LOAD BYTE (R138, by R113). -/
def execLb (rd rs : Nat) (s : State) : Result :=
  intResult 8 .sign (fun _ b => b) rd rs s

/-- LH, LOAD HALFWORD (R139, by R113). -/
def execLh (rd rs : Nat) (s : State) : Result :=
  intResult 16 .sign (fun _ b => b) rd rs s

/-- L, LOAD INTEGER (R140, by R113). -/
def execL (rd rs : Nat) (s : State) : Result :=
  intResult 32 .sign (fun _ b => b) rd rs s

/-- LL, LOAD LONG (R141, by R113). -/
def execLl (rd rs : Nat) (s : State) : Result :=
  intResult 64 .sign (fun _ b => b) rd rs s

/-- STB, STORE BYTE (R142, by R114). -/
def execStb (rd rs : Nat) (s : State) : Result :=
  intResult 8 (upperExt s.par.stUpper) (fun _ b => b) rd rs s

/-- STH, STORE HALFWORD (R143, by R114). -/
def execSth (rd rs : Nat) (s : State) : Result :=
  intResult 16 (upperExt s.par.stUpper) (fun _ b => b) rd rs s

/-- ST, STORE INTEGER (R144, by R114). -/
def execSt (rd rs : Nat) (s : State) : Result :=
  intResult 32 (upperExt s.par.stUpper) (fun _ b => b) rd rs s

/-- STL, STORE LONG (R145, by R114). -/
def execStl (rd rs : Nat) (s : State) : Result :=
  intResult 64 (upperExt s.par.stUpper) (fun _ b => b) rd rs s

/-- AB, ADD BYTE (R146, by R117). -/
def execAb (rd rs : Nat) (s : State) : Result :=
  intResult 8 s.par.narrowExt (fun a b => a + b) rd rs s

/-- AH, ADD HALFWORD (R147, by R117). -/
def execAh (rd rs : Nat) (s : State) : Result :=
  intResult 16 s.par.narrowExt (fun a b => a + b) rd rs s

/-- A, ADD INTEGER (R148, by R117). -/
def execA (rd rs : Nat) (s : State) : Result :=
  intResult 32 s.par.narrowExt (fun a b => a + b) rd rs s

/-- AL, ADD LONG (R149, by R117). -/
def execAl (rd rs : Nat) (s : State) : Result :=
  intResult 64 s.par.narrowExt (fun a b => a + b) rd rs s

/-- SB, SUBTRACT BYTE (R150, by R118). -/
def execSb (rd rs : Nat) (s : State) : Result :=
  intResult 8 s.par.narrowExt (fun a b => a - b) rd rs s

/-- SH, SUBTRACT HALFWORD (R151, by R118). -/
def execSh (rd rs : Nat) (s : State) : Result :=
  intResult 16 s.par.narrowExt (fun a b => a - b) rd rs s

/-- S, SUBTRACT INTEGER (R152, by R118). -/
def execS (rd rs : Nat) (s : State) : Result :=
  intResult 32 s.par.narrowExt (fun a b => a - b) rd rs s

/-- SL, SUBTRACT LONG (R153, by R118). -/
def execSl (rd rs : Nat) (s : State) : Result :=
  intResult 64 s.par.narrowExt (fun a b => a - b) rd rs s

/-- SWB, SWAP BYTE (R154, by R124). -/
def execSwb (rd rs : Nat) (s : State) : Result :=
  intSwap 8 rd rs s

/-- SWH, SWAP HALFWORD (R155, by R124). -/
def execSwh (rd rs : Nat) (s : State) : Result :=
  intSwap 16 rd rs s

/-- SW, SWAP INTEGER (R156, by R124). -/
def execSw (rd rs : Nat) (s : State) : Result :=
  intSwap 32 rd rs s

/-- SWL, SWAP LONG (R157, by R124). -/
def execSwl (rd rs : Nat) (s : State) : Result :=
  intSwap 64 rd rs s

/-- CB, COMPARE BYTE (R158, by R119). -/
def execCb (rd rs : Nat) (s : State) : Result :=
  intCompare 8 rd rs s

/-- CH, COMPARE HALFWORD (R159, by R119). -/
def execCh (rd rs : Nat) (s : State) : Result :=
  intCompare 16 rd rs s

/-- C, COMPARE INTEGER (R160, by R119). -/
def execC (rd rs : Nat) (s : State) : Result :=
  intCompare 32 rd rs s

/-- CL, COMPARE LONG (R161, by R119). -/
def execCl (rd rs : Nat) (s : State) : Result :=
  intCompare 64 rd rs s

/-- IB, INSERT BYTE (R162, by R116). -/
def execIb (rd rs : Nat) (s : State) : Result :=
  intResult 8 .unchanged (fun _ b => b) rd rs s

/-- IH, INSERT HALFWORD (R163, by R116). -/
def execIh (rd rs : Nat) (s : State) : Result :=
  intResult 16 .unchanged (fun _ b => b) rd rs s

/-- I, INSERT INTEGER (R164, by R116). -/
def execI (rd rs : Nat) (s : State) : Result :=
  intResult 32 .unchanged (fun _ b => b) rd rs s

/-- XB, EXCLUSIVE OR BYTE (R165, by R123). -/
def execXb (rd rs : Nat) (s : State) : Result :=
  intResult 8 s.par.narrowExt (fun a b => a ^^^ b) rd rs s

/-- XH, EXCLUSIVE OR HALFWORD (R166, by R123). -/
def execXh (rd rs : Nat) (s : State) : Result :=
  intResult 16 s.par.narrowExt (fun a b => a ^^^ b) rd rs s

/-- X, EXCLUSIVE OR INTEGER (R167, by R123). -/
def execX (rd rs : Nat) (s : State) : Result :=
  intResult 32 s.par.narrowExt (fun a b => a ^^^ b) rd rs s

/-- XL, EXCLUSIVE OR LONG (R168, by R123). -/
def execXl (rd rs : Nat) (s : State) : Result :=
  intResult 64 s.par.narrowExt (fun a b => a ^^^ b) rd rs s

/-- ULB, UNSIGNED LOAD BYTE (R169, by R115). -/
def execUlb (rd rs : Nat) (s : State) : Result :=
  intResult 8 .zero (fun _ b => b) rd rs s

/-- ULH, UNSIGNED LOAD HALFWORD (R170, by R115). -/
def execUlh (rd rs : Nat) (s : State) : Result :=
  intResult 16 .zero (fun _ b => b) rd rs s

/-- UL, UNSIGNED LOAD INTEGER (R171, by R115). -/
def execUl (rd rs : Nat) (s : State) : Result :=
  intResult 32 .zero (fun _ b => b) rd rs s

/-- DUB, DIVIDE UNSIGNED BYTE (R172, by R122). -/
def execDub (rd rs : Nat) (s : State) : Result :=
  intDivideUnsigned 8 rd rs s

/-- DUH, DIVIDE UNSIGNED HALFWORD (R173, by R122). -/
def execDuh (rd rs : Nat) (s : State) : Result :=
  intDivideUnsigned 16 rd rs s

/-- DU, DIVIDE UNSIGNED INTEGER (R174, by R122). -/
def execDu (rd rs : Nat) (s : State) : Result :=
  intDivideUnsigned 32 rd rs s

/-- DUL, DIVIDE UNSIGNED LONG (R175, by R122). -/
def execDul (rd rs : Nat) (s : State) : Result :=
  intDivideUnsigned 64 rd rs s

/-- NB, AND BYTE (R176, by R123). -/
def execNb (rd rs : Nat) (s : State) : Result :=
  intResult 8 s.par.narrowExt (fun a b => a &&& b) rd rs s

/-- NH, AND HALFWORD (R177, by R123). -/
def execNh (rd rs : Nat) (s : State) : Result :=
  intResult 16 s.par.narrowExt (fun a b => a &&& b) rd rs s

/-- N, AND INTEGER (R178, by R123). -/
def execN (rd rs : Nat) (s : State) : Result :=
  intResult 32 s.par.narrowExt (fun a b => a &&& b) rd rs s

/-- NL, AND LONG (R179, by R123). -/
def execNl (rd rs : Nat) (s : State) : Result :=
  intResult 64 s.par.narrowExt (fun a b => a &&& b) rd rs s

/-- OB, OR BYTE (R180, by R123). -/
def execOb (rd rs : Nat) (s : State) : Result :=
  intResult 8 s.par.narrowExt (fun a b => a ||| b) rd rs s

/-- OH, OR HALFWORD (R181, by R123). -/
def execOh (rd rs : Nat) (s : State) : Result :=
  intResult 16 s.par.narrowExt (fun a b => a ||| b) rd rs s

/-- O, OR INTEGER (R182, by R123). -/
def execO (rd rs : Nat) (s : State) : Result :=
  intResult 32 s.par.narrowExt (fun a b => a ||| b) rd rs s

/-- OL, OR LONG (R183, by R123). -/
def execOl (rd rs : Nat) (s : State) : Result :=
  intResult 64 s.par.narrowExt (fun a b => a ||| b) rd rs s

/-- MEH, MULTIPLY EXTENSIBLY HALFWORD (R184, by R125). -/
def execMeh (rd rs : Nat) (s : State) : Result :=
  mulExtend 16 rd rs s

/-- ME, MULTIPLY EXTENSIBLY INTEGER (R185, by R125). -/
def execMe (rd rs : Nat) (s : State) : Result :=
  mulExtend 32 rd rs s

/-- MEL, MULTIPLY EXTENSIBLY LONG (R186, by R125). -/
def execMel (rd rs : Nat) (s : State) : Result :=
  mulExtendLong rd rs s

/-- DEH, DIVIDE EXTENSIBLY HALFWORD (R187, by R126). -/
def execDeh (rd rs : Nat) (s : State) : Result :=
  divExtend 16 rd rs s

/-- DE, DIVIDE EXTENSIBLY INTEGER (R188, by R126). -/
def execDe (rd rs : Nat) (s : State) : Result :=
  divExtend 32 rd rs s

/-- DEL, DIVIDE EXTENSIBLY LONG (R189, by R126). -/
def execDel (rd rs : Nat) (s : State) : Result :=
  divExtendLong rd rs s

/-- DEUH, DIVIDE EXTENSIBLY UNSIGNED HALFWORD (R190, by R127). -/
def execDeuh (rd rs : Nat) (s : State) : Result :=
  divExtendUnsigned 16 rd rs s

/-- DEU, DIVIDE EXTENSIBLY UNSIGNED INTEGER (R191, by R127). -/
def execDeu (rd rs : Nat) (s : State) : Result :=
  divExtendUnsigned 32 rd rs s

/-- DEUL, DIVIDE EXTENSIBLY UNSIGNED LONG (R192, by R127). -/
def execDeul (rd rs : Nat) (s : State) : Result :=
  divExtendUnsignedLong rd rs s

end Sys2Proof.Machine
end

