-- ==== Sys2Proof/Machine/Shift.lean ====
section
/-! DEFINITION. The 16 shift and rotate instructions, in the order of 42_shift_rotate.md section 2. -/

namespace Sys2Proof.Machine

/-- LSLLC, Logical Shift Left Long Compact (R262, by R252 and R253). -/
def execLsllc (reg cnt : Nat) (s : State) : Result :=
  shiftReg 64 (fun v c => v <<< c) reg cnt s

/-- LSRLC, Logical Shift Right Long Compact (R263, by R252 and R254). -/
def execLsrlc (reg cnt : Nat) (s : State) : Result :=
  shiftReg 64 (fun v c => v >>> c) reg cnt s

/-- RLLC, Rotate Left Long Compact (R264, by R252 and R256). -/
def execRllc (reg cnt : Nat) (s : State) : Result :=
  shiftReg 64 (fun v c => rotate v c) reg cnt s

/-- ASRLC, Arithmetic Shift Right Long Compact (R265, by R252 and R255). -/
def execAsrlc (reg cnt : Nat) (s : State) : Result :=
  shiftReg 64 (fun v c => v.sshiftRight c) reg cnt s

/-- LSLC, Logical Shift Left Compact (R266, by R252 and R253). -/
def execLslc (reg cnt : Nat) (s : State) : Result :=
  shiftReg 32 (fun v c => v <<< c) reg cnt s

/-- LSRC, Logical Shift Right Compact (R267, by R252 and R254). -/
def execLsrc (reg cnt : Nat) (s : State) : Result :=
  shiftReg 32 (fun v c => v >>> c) reg cnt s

/-- RLC, Rotate Left Compact (R268, by R252 and R256). -/
def execRlc (reg cnt : Nat) (s : State) : Result :=
  shiftReg 32 (fun v c => rotate v c) reg cnt s

/-- ASRC, Arithmetic Shift Right Compact (R269, by R252 and R255). -/
def execAsrc (reg cnt : Nat) (s : State) : Result :=
  shiftReg 32 (fun v c => v.sshiftRight c) reg cnt s

/-- LSLHC, Logical Shift Left Halfword Compact (R270, by R252 and R253). -/
def execLslhc (reg cnt : Nat) (s : State) : Result :=
  shiftReg 16 (fun v c => v <<< c) reg cnt s

/-- LSRHC, Logical Shift Right Halfword Compact (R271, by R252 and R254). -/
def execLsrhc (reg cnt : Nat) (s : State) : Result :=
  shiftReg 16 (fun v c => v >>> c) reg cnt s

/-- RLHC, Rotate Left Halfword Compact (R272, by R252 and R256). -/
def execRlhc (reg cnt : Nat) (s : State) : Result :=
  shiftReg 16 (fun v c => rotate v c) reg cnt s

/-- ASRHC, Arithmetic Shift Right Halfword Compact (R273, by R252 and R255). -/
def execAsrhc (reg cnt : Nat) (s : State) : Result :=
  shiftReg 16 (fun v c => v.sshiftRight c) reg cnt s

/-- LSLBC, Logical Shift Left Byte Compact (R274, by R252 and R253). -/
def execLslbc (reg cnt : Nat) (s : State) : Result :=
  shiftReg 8 (fun v c => v <<< c) reg cnt s

/-- LSRBC, Logical Shift Right Byte Compact (R275, by R252 and R254). -/
def execLsrbc (reg cnt : Nat) (s : State) : Result :=
  shiftReg 8 (fun v c => v >>> c) reg cnt s

/-- RLBC, Rotate Left Byte Compact (R276, by R252 and R256). -/
def execRlbc (reg cnt : Nat) (s : State) : Result :=
  shiftReg 8 (fun v c => rotate v c) reg cnt s

/-- ASRBC, Arithmetic Shift Right Byte Compact (R277, by R252 and R255). -/
def execAsrbc (reg cnt : Nat) (s : State) : Result :=
  shiftReg 8 (fun v c => v.sshiftRight c) reg cnt s

end Sys2Proof.Machine
end

