-- ==== Sys2Proof/Machine/Dispatch.lean ====
section
/-! DEFINITION. The dispatch of an instruction to its meaning: one arm for each constructor of `Instr`. -/

namespace Sys2Proof.Machine

def exec (i : Instr) (s : State) : Host.Outcome State Fault Refusal :=
  match i with
  | .cb rd rs => Sys2Proof.Machine.execCb rd rs s
  | .lb rd rs => Sys2Proof.Machine.execLb rd rs s
  | .stb rd rs => Sys2Proof.Machine.execStb rd rs s
  | .ab rd rs => Sys2Proof.Machine.execAb rd rs s
  | .sb rd rs => Sys2Proof.Machine.execSb rd rs s
  | .mb rd rs => Sys2Proof.Machine.execMb rd rs s
  | .db rd rs => Sys2Proof.Machine.execDb rd rs s
  | .ib rd rs => Sys2Proof.Machine.execIb rd rs s
  | .xb rd rs => Sys2Proof.Machine.execXb rd rs s
  | .ulb rd rs => Sys2Proof.Machine.execUlb rd rs s
  | .dub rd rs => Sys2Proof.Machine.execDub rd rs s
  | .nb rd rs => Sys2Proof.Machine.execNb rd rs s
  | .ob rd rs => Sys2Proof.Machine.execOb rd rs s
  | .swb rd rs => Sys2Proof.Machine.execSwb rd rs s
  | .swh rd rs => Sys2Proof.Machine.execSwh rd rs s
  | .deuh rd rs => Sys2Proof.Machine.execDeuh rd rs s
  | .ch rd rs => Sys2Proof.Machine.execCh rd rs s
  | .lh rd rs => Sys2Proof.Machine.execLh rd rs s
  | .sth rd rs => Sys2Proof.Machine.execSth rd rs s
  | .ah rd rs => Sys2Proof.Machine.execAh rd rs s
  | .sh rd rs => Sys2Proof.Machine.execSh rd rs s
  | .mh rd rs => Sys2Proof.Machine.execMh rd rs s
  | .dh rd rs => Sys2Proof.Machine.execDh rd rs s
  | .ih rd rs => Sys2Proof.Machine.execIh rd rs s
  | .xh rd rs => Sys2Proof.Machine.execXh rd rs s
  | .ulh rd rs => Sys2Proof.Machine.execUlh rd rs s
  | .duh rd rs => Sys2Proof.Machine.execDuh rd rs s
  | .nh rd rs => Sys2Proof.Machine.execNh rd rs s
  | .oh rd rs => Sys2Proof.Machine.execOh rd rs s
  | .meh rd rs => Sys2Proof.Machine.execMeh rd rs s
  | .deh rd rs => Sys2Proof.Machine.execDeh rd rs s
  | .deu rd rs => Sys2Proof.Machine.execDeu rd rs s
  | .c rd rs => Sys2Proof.Machine.execC rd rs s
  | .l rd rs => Sys2Proof.Machine.execL rd rs s
  | .st rd rs => Sys2Proof.Machine.execSt rd rs s
  | .a rd rs => Sys2Proof.Machine.execA rd rs s
  | .s rd rs => Sys2Proof.Machine.execS rd rs s
  | .m rd rs => Sys2Proof.Machine.execM rd rs s
  | .d rd rs => Sys2Proof.Machine.execD rd rs s
  | .i rd rs => Sys2Proof.Machine.execI rd rs s
  | .x rd rs => Sys2Proof.Machine.execX rd rs s
  | .ul rd rs => Sys2Proof.Machine.execUl rd rs s
  | .du rd rs => Sys2Proof.Machine.execDu rd rs s
  | .n rd rs => Sys2Proof.Machine.execN rd rs s
  | .o rd rs => Sys2Proof.Machine.execO rd rs s
  | .me rd rs => Sys2Proof.Machine.execMe rd rs s
  | .de rd rs => Sys2Proof.Machine.execDe rd rs s
  | .deul rd rs => Sys2Proof.Machine.execDeul rd rs s
  | .cl rd rs => Sys2Proof.Machine.execCl rd rs s
  | .ll rd rs => Sys2Proof.Machine.execLl rd rs s
  | .stl rd rs => Sys2Proof.Machine.execStl rd rs s
  | .al rd rs => Sys2Proof.Machine.execAl rd rs s
  | .sl rd rs => Sys2Proof.Machine.execSl rd rs s
  | .ml rd rs => Sys2Proof.Machine.execMl rd rs s
  | .dl rd rs => Sys2Proof.Machine.execDl rd rs s
  | .sw rd rs => Sys2Proof.Machine.execSw rd rs s
  | .xl rd rs => Sys2Proof.Machine.execXl rd rs s
  | .swl rd rs => Sys2Proof.Machine.execSwl rd rs s
  | .dul rd rs => Sys2Proof.Machine.execDul rd rs s
  | .nl rd rs => Sys2Proof.Machine.execNl rd rs s
  | .ol rd rs => Sys2Proof.Machine.execOl rd rs s
  | .mel rd rs => Sys2Proof.Machine.execMel rd rs s
  | .del rd rs => Sys2Proof.Machine.execDel rd rs s
  | .swm rd rs => Sys2Proof.Machine.execSwm rd rs s
  | .cm rd rs => Sys2Proof.Machine.execCm rd rs s
  | .lm rd rs => Sys2Proof.Machine.execLm rd rs s
  | .stm rd rs => Sys2Proof.Machine.execStm rd rs s
  | .am rd rs => Sys2Proof.Machine.execAm rd rs s
  | .sm rd rs => Sys2Proof.Machine.execSm rd rs s
  | .mm rd rs => Sys2Proof.Machine.execMm rd rs s
  | .dm rd rs => Sys2Proof.Machine.execDm rd rs s
  | .swf rd rs => Sys2Proof.Machine.execSwf rd rs s
  | .cf rd rs => Sys2Proof.Machine.execCf rd rs s
  | .lf rd rs => Sys2Proof.Machine.execLf rd rs s
  | .stf rd rs => Sys2Proof.Machine.execStf rd rs s
  | .af rd rs => Sys2Proof.Machine.execAf rd rs s
  | .sf rd rs => Sys2Proof.Machine.execSf rd rs s
  | .mf rd rs => Sys2Proof.Machine.execMf rd rs s
  | .df rd rs => Sys2Proof.Machine.execDf rd rs s
  | .swd rd rs => Sys2Proof.Machine.execSwd rd rs s
  | .cd rd rs => Sys2Proof.Machine.execCd rd rs s
  | .ld rd rs => Sys2Proof.Machine.execLd rd rs s
  | .std rd rs => Sys2Proof.Machine.execStd rd rs s
  | .ad rd rs => Sys2Proof.Machine.execAd rd rs s
  | .sd rd rs => Sys2Proof.Machine.execSd rd rs s
  | .md rd rs => Sys2Proof.Machine.execMd rd rs s
  | .dd rd rs => Sys2Proof.Machine.execDd rd rs s
  | .swq rd rs => Sys2Proof.Machine.execSwq rd rs s
  | .cq rd rs => Sys2Proof.Machine.execCq rd rs s
  | .lq rd rs => Sys2Proof.Machine.execLq rd rs s
  | .stq rd rs => Sys2Proof.Machine.execStq rd rs s
  | .aq rd rs => Sys2Proof.Machine.execAq rd rs s
  | .sq rd rs => Sys2Proof.Machine.execSq rd rs s
  | .mq rd rs => Sys2Proof.Machine.execMq rd rs s
  | .dq rd rs => Sys2Proof.Machine.execDq rd rs s
  | .lsllc reg cnt => Sys2Proof.Machine.execLsllc reg cnt s
  | .lsrlc reg cnt => Sys2Proof.Machine.execLsrlc reg cnt s
  | .rllc reg cnt => Sys2Proof.Machine.execRllc reg cnt s
  | .asrlc reg cnt => Sys2Proof.Machine.execAsrlc reg cnt s
  | .lslc reg cnt => Sys2Proof.Machine.execLslc reg cnt s
  | .lsrc reg cnt => Sys2Proof.Machine.execLsrc reg cnt s
  | .rlc reg cnt => Sys2Proof.Machine.execRlc reg cnt s
  | .asrc reg cnt => Sys2Proof.Machine.execAsrc reg cnt s
  | .lslhc reg cnt => Sys2Proof.Machine.execLslhc reg cnt s
  | .lsrhc reg cnt => Sys2Proof.Machine.execLsrhc reg cnt s
  | .rlhc reg cnt => Sys2Proof.Machine.execRlhc reg cnt s
  | .asrhc reg cnt => Sys2Proof.Machine.execAsrhc reg cnt s
  | .lslbc reg cnt => Sys2Proof.Machine.execLslbc reg cnt s
  | .lsrbc reg cnt => Sys2Proof.Machine.execLsrbc reg cnt s
  | .rlbc reg cnt => Sys2Proof.Machine.execRlbc reg cnt s
  | .asrbc reg cnt => Sys2Proof.Machine.execAsrbc reg cnt s
  | .nop disp => Sys2Proof.Machine.execNop disp s
  | .blr disp => Sys2Proof.Machine.execBlr disp s
  | .ber disp => Sys2Proof.Machine.execBer disp s
  | .bler disp => Sys2Proof.Machine.execBler disp s
  | .bhr disp => Sys2Proof.Machine.execBhr disp s
  | .bner disp => Sys2Proof.Machine.execBner disp s
  | .bher disp => Sys2Proof.Machine.execBher disp s
  | .b disp => Sys2Proof.Machine.execB disp s
  | .bm disp => Sys2Proof.Machine.execBm disp s
  | .bz disp => Sys2Proof.Machine.execBz disp s
  | .bmz disp => Sys2Proof.Machine.execBmz disp s
  | .bp disp => Sys2Proof.Machine.execBp disp s
  | .bnz disp => Sys2Proof.Machine.execBnz disp s
  | .bpz disp => Sys2Proof.Machine.execBpz disp s
  | .bnv disp => Sys2Proof.Machine.execBnv disp s
  | .bl disp => Sys2Proof.Machine.execBl disp s
  | .be disp => Sys2Proof.Machine.execBe disp s
  | .ble disp => Sys2Proof.Machine.execBle disp s
  | .bh disp => Sys2Proof.Machine.execBh disp s
  | .bne disp => Sys2Proof.Machine.execBne disp s
  | .bhe disp => Sys2Proof.Machine.execBhe disp s
  | .bnc disp => Sys2Proof.Machine.execBnc disp s
  | .bc disp => Sys2Proof.Machine.execBc disp s
  | .bv disp => Sys2Proof.Machine.execBv disp s
  | .sfc k q => Sys2Proof.Machine.execSfc k q s
  | .cfc k q => Sys2Proof.Machine.execCfc k q s
  | .ctf k q => Sys2Proof.Machine.execCtf k q s
  | .svc code => Sys2Proof.Machine.execSvc code s

end Sys2Proof.Machine
end

