-- ==== Sys2Proof/Machine/Step.lean ====
section
/-! DEFINITION. One step of the machine (70_reset_and_hazards.md R379) and the placing of an instruction where the next
step fetches it. -/

namespace Sys2Proof.Machine

/-- One step: fetch, decode by the machine's layouts, run the instruction; a word that is no instruction ends the run with
`ReservedInstruction(w)` (70_reset_and_hazards.md R379, 60_exceptions.md R346). -/
def step (s : State) : Host.Outcome State Fault Refusal :=
  match s.fetch with
  | .error r => .refused r
  | .ok w =>
    match s.decodeWord w with
    | none => raise (.reservedInstruction w)
    | some i => exec i s

/-- A container with `w` in slot `slot` (at most 14) and NOP in the others, as short as the table allows
(30_encoding.md R76, R77; 43_branch.md R287). -/
def fetchContainer (slot : Nat) (w : Word) : Container :=
  let n := max 2 (slot + 1)
  { len := (containerLen n).getD 48, words := (List.replicate n 0o700000#18).set slot w }

/-- The container to fetch from: the one that stands there with its slot replaced, or a new one. -/
def fetchContainerIn (old : Option Container) (slot : Nat) (w : Word) : Container :=
  match old with
  | some c => if slot < c.words.length then { c with words := c.words.set slot w } else fetchContainer slot w
  | none => fetchContainer slot w

/-- The state with the one-word instruction `w` stored where the next step fetches: in the slot of the container the
program counter names, a container being placed there if none has that slot. A slot no container can have becomes
slot 0. It stands for the loading of a program from outside (70_reset_and_hazards.md R372, notes/assumptions/4.md). -/
def State.withFetchWord (s : State) (_nbits w : Nat) : State :=
  let slot := if s.pc.slot < 15 then s.pc.slot else 0
  let c := fetchContainerIn (s.text.lookup s.pc.ca) slot (BitVec.ofNat 18 w)
  { s with text := s.text.place s.pc.ca c, pc := { ca := s.pc.ca, slot := slot } }

end Sys2Proof.Machine
end

