-- ==== Sys2Proof/Machine/FloatFormat.lean ====
section
/-! DEFINITION. The floating-point formats as far as the text lets them be rebuilt, and the value of a normalised number
(41_float_operate.md R201 to R205). No instruction reads them: every computed value comes from `FNUM` (R208). The field
widths of F, M and D and the field order are a reconstruction (notes/assumptions/7.md). -/

namespace Sys2Proof.Machine

/-- A format: its total width, the widths of its exponent and stored significand fields, its bias, and whether the first
significand bit is hidden (41_float_operate.md R202 to R204). -/
structure FloatFormat where
  width : Nat
  expBits : Nat
  sigBits : Nat
  bias : Nat
  hidden : Bool
deriving DecidableEq, Repr

/-- The four formats: F 8 and 23 bits, M 10 and 37, D 11 and 52, Q 20 and 107 with no hidden bit; each bias is two less
than a power of two (41_float_operate.md R203, R204). -/
def floatFormat : FType → FloatFormat
  | .floating => { width := 32, expBits := 8, sigBits := 23, bias := 126, hidden := true }
  | .medium => { width := 48, expBits := 10, sigBits := 37, bias := 510, hidden := true }
  | .double => { width := 64, expBits := 11, sigBits := 52, bias := 1022, hidden := true }
  | .quad => { width := 128, expBits := 20, sigBits := 107, bias := 524286, hidden := false }

/-- The sign bit of a pattern, the most significant bit of the format (41_float_operate.md R203, R204). -/
def floatSign (t : FType) (v : FPattern) : Bool :=
  v.getLsbD ((floatFormat t).width - 1)

/-- The exponent field of a pattern, as an unsigned number. -/
def floatExponent (t : FType) (v : FPattern) : Nat :=
  (v.toNat >>> (floatFormat t).sigBits) % 2 ^ (floatFormat t).expBits

/-- The stored fraction or significand field of a pattern, as an unsigned number. -/
def floatSignificand (t : FType) (v : FPattern) : Nat :=
  v.toNat % 2 ^ (floatFormat t).sigBits

/-- The leading significand bit is 1: the hidden bit by the convention of the format, the stored top bit in Q
(41_float_operate.md R202, R204). It does not say that the pattern encodes a number (R206). -/
def floatLeadingOne (t : FType) (v : FPattern) : Bool :=
  (floatFormat t).hidden || decide (2 ^ ((floatFormat t).sigBits - 1) ≤ floatSignificand t v)

/-- The pattern of 1.0 that the spec works out for each format, so a normalised number (41_float_operate.md R205). -/
def floatOne : FType → FPattern
  | .floating => 0x3F800000#128
  | .medium => 0x3FE000000000#128
  | .double => 0x3FF0000000000000#128
  | .quad => 0x3FFFFC00000000000000000000000000#128

/-- The pattern is a normalised number: its leading significand bit is 1 and it encodes a number by the value formula.
Which patterns do is open for every exponent field, all zeros and all ones included, in every format, save for the worked
pattern of 1.0: no zero, special or denormal encoding is assumed to exist or not to exist (41_float_operate.md R206).
DESIGN CHOICE of this free value, notes/assumptions/31.md. -/
def floatNormalised (t : FType) (v : FPattern) : Bool :=
  floatLeadingOne t v && (decide (v = floatOne t) || Config.floatIsNumber t v)

/-- A number `num * 2 ^ exp`. -/
structure DyadicValue where
  num : Int
  exp : Int
deriving DecidableEq, Repr

/-- The significand with its leading bit as an integer: in the hidden-bit formats `2^p + R` over `2^(p+1)`, in Q `G` over
`2^107` (41_float_operate.md R205). -/
def floatFullSignificand (t : FType) (v : FPattern) : Nat :=
  if (floatFormat t).hidden then 2 ^ (floatFormat t).sigBits + floatSignificand t v else floatSignificand t v

/-- How many bits the full significand has below the binary point, which stands before its first bit. -/
def floatFullBits (t : FType) : Nat :=
  if (floatFormat t).hidden then (floatFormat t).sigBits + 1 else (floatFormat t).sigBits

/-- The value of a normalised number, asked of no other pattern: `(-1)^S` times the significand times `2^(E - bias)` (41_float_operate.md R205). -/
def floatValue (t : FType) (v : FPattern) : DyadicValue where
  num := if floatSign t v then -(floatFullSignificand t v) else floatFullSignificand t v
  exp := (floatExponent t v : Int) - (floatFormat t).bias - floatFullBits t

end Sys2Proof.Machine
end

