-- ==== Sys2Proof/Safety.lean ====
section
/-! DEFINITION. The terms claims are stated in: the invariant of the machine, what an instruction leaves unchanged, the
mathematical value of a register's low bits, and what it is for a result to fill a register. -/

namespace Sys2Proof

/-- The eight COMPARE instructions (10_state.md R30). -/
def Instr.isCompare : Instr → Bool
  | .cb _ _ => true
  | .ch _ _ => true
  | .c _ _ => true
  | .cl _ _ => true
  | .cm _ _ => true
  | .cf _ _ => true
  | .cd _ _ => true
  | .cq _ _ => true
  | _ => false

/-- The instruction names integer registers: the integer operate instructions and the shifts (10_state.md R22). -/
def Form.namesX : Form → Bool
  | .intOp _ _ => true
  | .shift _ _ _ => true
  | _ => false

/-- The instruction names floating-point registers (10_state.md R27). -/
def Form.namesF : Form → Bool
  | .floatOp _ _ => true
  | _ => false

/-- The instruction names a predicate flag (10_state.md R34). -/
def Form.namesFlag : Form → Bool
  | .flag _ _ => true
  | _ => false

end Sys2Proof

namespace Sys2Proof.Machine

/-! ### The invariant -/

/-- The program counter names a slot of the container at its address, or slot 0 where no container stands
(10_state.md R38, 60_exceptions.md R343). -/
def State.slotOk (s : State) : Bool :=
  match s.text.lookup s.pc.ca with
  | some c => decide (s.pc.slot < c.words.length)
  | none => decide (s.pc.slot = 0)

/-- The invariant of a run: the text keeps its canonical form and its addresses have `AW` bits, the program counter's
address has `AW` bits, its slot is one the container has (10_state.md R36 to R38, 70_reset_and_hazards.md R373). -/
abbrev State.Inv (s : State) : Prop :=
  s.text.wf ∧ (∀ e ∈ s.text, e.1 < 2 ^ s.par.aw) ∧ s.pc.ca < 2 ^ s.par.aw ∧ s.slotOk = true

/-! ### Outcomes -/

/-- The word an outcome records (60_exceptions.md R341). -/
def Fault.word : Fault → Word
  | .reservedInstruction w => w
  | .registerSpecification w => w
  | .divideByZero w => w
  | .divideOverflow w => w

/-- The answer with its next state changed by `g`; a stop is left as it is. -/
def mapNext (g : State → State) : Result → Result
  | .next t => .next (g t)
  | .fault k => .fault k
  | .refused r => .refused r

/-! ### Frames -/

/-- From `s` to `t` nothing changes but the integer registers listed, and execution goes on in sequence. -/
structure OnlyX (ds : List Nat) (s t : State) : Prop where
  nireg : t.nireg = s.nireg
  others : ∀ j, j ∉ ds → t.readX j = s.readX j
  f : t.f = s.f
  cc : t.cc = s.cc
  pf : t.pf = s.pf
  mode : t.mode = s.mode
  text : t.text = s.text
  par : t.par = s.par
  draws : t.draws = s.draws
  pc : t.pc = s.nextPC

/-- From `s` to `t` nothing changes but the floating-point registers listed, and execution goes on in sequence. -/
structure OnlyF (ds : List Nat) (s t : State) : Prop where
  nfreg : t.nfreg = s.nfreg
  others : ∀ j, j ∉ ds → t.readF j = s.readF j
  x : t.x = s.x
  cc : t.cc = s.cc
  pf : t.pf = s.pf
  mode : t.mode = s.mode
  text : t.text = s.text
  par : t.par = s.par
  draws : t.draws = s.draws
  pc : t.pc = s.nextPC

/-- From `s` to `t` nothing changes but the condition codes (and the count of the model's draws), and execution goes on
in sequence. -/
structure OnlyCC (s t : State) : Prop where
  x : t.x = s.x
  f : t.f = s.f
  pf : t.pf = s.pf
  mode : t.mode = s.mode
  text : t.text = s.text
  par : t.par = s.par
  pc : t.pc = s.nextPC

/-- From `s` to `t` nothing changes but one predicate flag, and execution goes on in sequence. -/
structure OnlyFlag (k : Nat) (s t : State) : Prop where
  nflags : t.nflags = s.nflags
  others : ∀ j, j ≠ k → t.readFlag j = s.readFlag j
  x : t.x = s.x
  f : t.f = s.f
  cc : t.cc = s.cc
  mode : t.mode = s.mode
  text : t.text = s.text
  par : t.par = s.par
  draws : t.draws = s.draws
  pc : t.pc = s.nextPC

/-- From `s` to `t` nothing changes but the program counter. -/
structure OnlyPC (s t : State) : Prop where
  x : t.x = s.x
  f : t.f = s.f
  cc : t.cc = s.cc
  pf : t.pf = s.pf
  mode : t.mode = s.mode
  text : t.text = s.text
  par : t.par = s.par
  draws : t.draws = s.draws

/-! ### Values -/

/-- `u(v[N-1:0])` (00_scope.md R11). -/
def uval (n : Nat) (v : XVal) : Int :=
  ((v.toNat % 2 ^ n : Nat) : Int)

/-- `s(v[N-1:0])`: `u` less `2^N` when the top bit is 1 (00_scope.md R11). -/
def sval (n : Nat) (v : XVal) : Int :=
  if uval n v < 2 ^ (n - 1) then uval n v else uval n v - 2 ^ n

/-- Bits 63 to `N` of a register after an `N`-bit result, bit by bit (00_scope.md R18). -/
def UpperBits (e : Ext) (n : Nat) (old new : XVal) : Prop :=
  ∀ i, n ≤ i → i < 64 → new.getLsbD i =
    match e with
    | .sign => new.getLsbD (n - 1)
    | .zero => false
    | .unchanged => old.getLsbD i

/-- Register `d` holds `bits_N(v)` in its low `N` bits and the upper bits `e` gives. -/
def Fills (e : Ext) (n d : Nat) (v : Int) (s t : State) : Prop :=
  uval n (t.readX d) = v % 2 ^ n ∧ UpperBits e n (s.readX d) (t.readX d)

/-- The instruction completes in sequence and writes one integer register, with the value `v` taken modulo `2^N`. -/
def WritesValue (e : Ext) (n d : Nat) (v : Int) (s : State) (o : Result) : Prop :=
  ∃ t, o = .next t ∧ OnlyX [d] s t ∧ Fills e n d v s t

/-- The instruction completes in sequence and writes one integer register, its low `N` bits given one by one. -/
def WritesBits (e : Ext) (n d : Nat) (bit : Nat → Bool) (s : State) (o : Result) : Prop :=
  ∃ t, o = .next t ∧ OnlyX [d] s t ∧ (∀ i, i < n → (t.readX d).getLsbD i = bit i) ∧
    UpperBits e n (s.readX d) (t.readX d)

/-- The instruction completes in sequence and exchanges the low `N` bits of two integer registers. -/
def Exchanges (e : Ext) (n d r : Nat) (s : State) (o : Result) : Prop :=
  ∃ t, o = .next t ∧ OnlyX [d, r] s t ∧ Fills e n d (uval n (s.readX r)) s t ∧ Fills e n r (uval n (s.readX d)) s t

/-- The instruction completes in sequence and writes one floating-point register with `v`. -/
def WritesFloat (d : Nat) (v : FVal) (s : State) (o : Result) : Prop :=
  ∃ t, o = .next t ∧ OnlyF [d] s t ∧ t.readF d = v

/-- The condition codes report the signed and the unsigned order of `a` against `b` over `N` bits, overflow clear
(40_integer_operate.md R119). -/
def ReportsOrders (n : Nat) (a b : XVal) (cc : CC) : Prop :=
  cc.sgn = (if sval n a < sval n b then .minus else if sval n a = sval n b then .zero else .plus) ∧
  cc.uns = (if uval n a < uval n b then .low else if uval n a = uval n b then .equal else .high) ∧
  cc.v = false

/-- The dividend of DIVIDE and DIVIDE UNSIGNED among the destination's value `a` and the source's `b`
(40_integer_operate.md R121). -/
def dividendOf (o : DivOrder) (a b : Int) : Int :=
  match o with
  | .srcByDst => b
  | .dstBySrc => a

/-- The divisor of DIVIDE and DIVIDE UNSIGNED (40_integer_operate.md R121). -/
def divisorOf (o : DivOrder) (a b : Int) : Int :=
  match o with
  | .srcByDst => a
  | .dstBySrc => b

/-- The dividend of DIVIDE at width `N` (40_integer_operate.md R121). -/
def State.signedDividend (s : State) (n rd rs : Nat) : Int :=
  dividendOf s.par.divOrder (sval n (s.readX rd)) (sval n (s.readX rs))

/-- The divisor of DIVIDE at width `N` (40_integer_operate.md R121). -/
def State.signedDivisor (s : State) (n rd rs : Nat) : Int :=
  divisorOf s.par.divOrder (sval n (s.readX rd)) (sval n (s.readX rs))

/-- The dividend of DIVIDE UNSIGNED at width `N` (40_integer_operate.md R122). -/
def State.unsignedDividend (s : State) (n rd rs : Nat) : Int :=
  dividendOf s.par.divOrder (uval n (s.readX rd)) (uval n (s.readX rs))

/-- The divisor of DIVIDE UNSIGNED at width `N` (40_integer_operate.md R122). -/
def State.unsignedDivisor (s : State) (n rd rs : Nat) : Int :=
  divisorOf s.par.divOrder (uval n (s.readX rd)) (uval n (s.readX rs))

/-- Quotient and remainder by the source's sign rule: magnitudes divided, both non-negative when the operands have the
same sign, both non-positive when they have opposite signs (00_scope.md R16). -/
def SignedDivision (a b q r : Int) : Prop :=
  q.natAbs = a.natAbs / b.natAbs ∧ r.natAbs = a.natAbs % b.natAbs ∧
  ((0 ≤ a ↔ 0 ≤ b) → 0 ≤ q ∧ 0 ≤ r) ∧ (¬(0 ≤ a ↔ 0 ≤ b) → q ≤ 0 ∧ r ≤ 0)

/-- The branch is taken exactly when `p` holds; otherwise execution goes on in sequence (43_branch.md R284, R285). -/
def TakenIff (p : Prop) (disp : BitVec 8) (s : State) (o : Result) : Prop :=
  (p → o = .next (s.jump disp)) ∧ (¬p → o = .next s.advance)

/-- Exactly one of two branches is taken (43_branch.md R311). -/
def OneTaken (disp : BitVec 8) (s : State) (a b : Result) : Prop :=
  (a = .next (s.jump disp) ∧ b = .next s.advance) ∨ (a = .next s.advance ∧ b = .next (s.jump disp))

end Sys2Proof.Machine
end

