-- ==== Sys2Proof/Certificates/Slice0/Obligations.lean ====
section
/-! DEFINITION. The statements for the provers. Each is over every state and operand unless it says otherwise, so it is
parametric in the OPEN parameters of 00_scope.md R7, the four operand layouts among them (they are fields of the state,
notes/assumptions/1.md), in the sizes of the files and in `FVal`; the free values are opaque, so it holds for every draw. What
is said of `decode` and `encode` is said of the reference layouts. -/

open Sys2Proof Sys2Proof.Machine

/-- Words written out from the spec's encodings decode to the instructions they stand for (95_test_vectors.md section
2.1). The operand fields are those of the reference layouts, a choice of the spec (notes/assumptions/1.md). -/
def Obligations.DecodeReadsTheWrittenWords : Prop :=
  decode 0o220500#18 = some (.a 1 2) ∧
  decode 0o373000#18 = some (.mel 6 0) ∧
  decode 0o577740#18 = some (.dq 7 7) ∧
  decode 0o004000#18 = some (.cb 0 0) ∧
  decode 0o301600#18 = some (.deul 3 4) ∧
  decode 0o603077#18 = some (.lsllc 3 63) ∧
  decode 0o645337#18 = some (.asrc 5 31) ∧
  decode 0o660217#18 = some (.rlhc 0 15) ∧
  decode 0o670177#18 = some (.lsrbc 7 7) ∧
  decode 0o700000#18 = some (.nop 0#8) ∧
  decode 0o700125#18 = some (.nop 85#8) ∧
  decode 0o703776#18 = some (.b 254#8) ∧
  decode 0o714600#18 = some (.bv 128#8) ∧
  decode 0o712577#18 = some (.bne 127#8) ∧
  decode 0o721052#18 = some (.sfc 1 10#5) ∧
  decode 0o722371#18 = some (.ctf 7 25#5) ∧
  decode 0o721400#18 = some (.cfc 0 0#5) ∧
  decode 0o737000#18 = some (.svc 0#8) ∧
  decode 0o737377#18 = some (.svc 255#8)

/-- Decoding the word of a well-formed instruction gives the instruction back, at every operand value, under the reference
layouts (30_encoding.md R72 to R94; the layouts are a choice, notes/assumptions/1.md). -/
def Obligations.DecodeAfterEncode : Prop :=
  ∀ i : Instr, i.wellFormed = true → decode (encode i) = some i

/-- A word that decodes to an instruction is the word of that instruction, and of no other (30_encoding.md R72; reference
layouts, notes/assumptions/1.md). -/
def Obligations.EncodeAfterDecode : Prop :=
  ∀ (w : Word) (i : Instr), decode w = some i → i.wellFormed = true ∧ encode i = w

/-- The words no chart or listing assigns decode to nothing, whatever the operand layouts (30_encoding.md R95 to R97; that
they are reserved is the spec's decision D28). -/
def Obligations.ReservedWordsDecodeToNothing : Prop :=
  ∀ (L : Layouts) (w : Word),
    (fieldNat w 11 7 = 0 ∨
      (fieldNat w 15 3 = 6 ∧ fieldNat w 12 3 ∈ [1, 2, 3, 5]) ∨
      (fieldNat w 14 4 = 14 ∧ (fieldNat w 8 6 ∈ [8, 16, 63] ∨ (26 ≤ fieldNat w 8 6 ∧ fieldNat w 8 6 ≤ 33) ∨
        (37 ≤ fieldNat w 8 6 ∧ fieldNat w 8 6 ≤ 61))) ∨
      fieldNat w 14 4 = 15) →
    decodeWith L w = none

/-- The bits the chart and the listings print select the instruction, whatever the operand layouts; a branch word has no
other bits than its displacement (30_encoding.md R72, R74, R81, R84, R87). -/
def Obligations.FormatSelectionIgnoresTheLayouts : Prop :=
  ∀ (L : Layouts) (w : Word) (i : Instr), decodeWith L w = some i →
    match i.form with
    | .intOp _ _ => fieldNat (encode i) 11 7 = fieldNat w 11 7
    | .floatOp _ _ => fieldNat (encode i) 11 7 = fieldNat w 11 7
    | .shift _ _ _ => fieldNat (encode i) 12 6 = fieldNat w 12 6 ∧ fieldNat (encode i) 6 2 = fieldNat w 6 2
    | .branch _ => encode i = w
    | .flag _ _ => fieldNat (encode i) 8 10 = fieldNat w 8 10
    | .svc _ => fieldNat (encode i) 8 10 = fieldNat w 8 10

/-- A step fetches the word in the slot, decodes it by the machine's operand layouts and runs the instruction; nothing is
added around it, since every meaning moves the program counter itself (70_reset_and_hazards.md R379, 10_state.md R45).
Well-formedness is claimed at the reference layouts alone, a choice of the spec (notes/assumptions/1.md); that a word
that is no instruction ends the run with ReservedInstruction is its decision D28 (notes/assumptions/12.md). -/
def Obligations.StepRunsTheDecodedInstruction : Prop :=
  ∀ (s : State) (c : Container) (w : Word), s.text.lookup s.pc.ca = some c → c.words[s.pc.slot]? = some w →
    (∀ i, s.decodeWord w = some i →
      step s = exec i s ∧ (s.par.layouts = refParams.layouts → decode w = some i ∧ i.wellFormed = true)) ∧
    (s.decodeWord w = none → step s = .fault (.reservedInstruction w))

/-- The stream reaching something that is no container ends the run (10_state.md R38, decision D34). The second clause is
the model's own choice for a state no run reaches (notes/assumptions/16.md). -/
def Obligations.FetchWithoutAContainerLeavesScope : Prop :=
  ∀ s : State,
    (s.text.lookup s.pc.ca = none → step s = .refused (.leftScope s.pc.ca)) ∧
    (∀ c, s.text.lookup s.pc.ca = some c → c.words.length ≤ s.pc.slot →
      step s = .refused (.noSuchSlot s.pc.ca s.pc.slot))

/-- Every fault carries the 18-bit word of the instruction that raised it (60_exceptions.md R341; the outcomes are the
spec's decision D31, what is recorded is State.word, notes/assumptions/15.md; it holds under every operand layout). -/
def Obligations.FaultNamesTheFetchedWord : Prop :=
  ∀ (s : State) (k : Fault), step s = .fault k →
    ∃ c w, s.text.lookup s.pc.ca = some c ∧ c.words[s.pc.slot]? = some w ∧ k.word = w

/-- `slot < Text(ca).n` is an invariant kept by the sequential advance and by the taken branch (10_state.md R38). -/
def Obligations.StepKeepsTheInvariant : Prop :=
  ∀ s t : State, s.Inv → step s = .next t → t.Inv

/-- The values of `State.reset` are the model's own (notes/assumptions/3.md). -/
def Obligations.ResetMeetsTheInvariant : Prop :=
  State.reset.Inv

/-- The text is constant during a run (20_memory.md R61), the mode is (10_state.md R41), and the parameters are fixed
(00_scope.md R8). -/
def Obligations.StepKeepsTextModeAndSizes : Prop :=
  ∀ s t : State, step s = .next t →
    t.text = s.text ∧ t.mode = s.mode ∧ t.par = s.par ∧ t.nireg = s.nireg ∧ t.nfreg = s.nfreg ∧ t.nflags = s.nflags

/-- Every target of a branch in a container at a 16-bit-aligned address is 16-bit aligned, and so is the address after a
container (10_state.md R40, derived there from R37). -/
def Obligations.StepKeepsEvenAddresses : Prop :=
  ∀ s t : State, s.text.wf → 1 ≤ s.par.aw → s.pc.ca % 2 = 0 → step s = .next t →
    t.text.wf ∧ 1 ≤ t.par.aw ∧ t.pc.ca % 2 = 0

/-- `next(pc)` (10_state.md R39; that the embedded instructions execute one after another is the spec's decision D40). -/
def Obligations.SequentialAdvance : Prop :=
  ∀ (s : State) (c : Container), s.text.lookup s.pc.ca = some c →
    (s.pc.slot + 1 < c.words.length → s.advance = { s with pc := { ca := s.pc.ca, slot := s.pc.slot + 1 } }) ∧
    (c.words.length ≤ s.pc.slot + 1 →
      s.advance = { s with pc := { ca := (s.pc.ca + c.len / 8) % 2 ^ s.par.aw, slot := 0 } })

/-- The target of a taken branch (43_branch.md R284; its base, the lost delay slot and the wrap-around are the spec's
decisions D11, D12, D13). -/
def Obligations.TakenBranchTarget : Prop :=
  ∀ (s : State) (c : Container) (disp : BitVec 8), s.text.lookup s.pc.ca = some c →
    ∃ a : Nat, (a : Int) = ((s.pc.ca : Int) + (c.len / 8 : Nat) + 4 * disp.toInt) % 2 ^ s.par.aw ∧
      s.jump disp = { s with pc := { ca := a, slot := 0 } }

/-- The reach of a branch to its own container (43_branch.md R286, derived there from R284 and 30_encoding.md R77). -/
def Obligations.SelfBranchReach : Prop :=
  ∀ (s : State) (c : Container), s.text.lookup s.pc.ca = some c → c.wf → 2 ≤ s.par.aw → s.pc.ca < 2 ^ s.par.aw →
    ((∃ disp : BitVec 8, s.branchTarget disp = s.pc.ca) ↔ c.len ∈ [64, 128, 160, 192, 224, 256, 288])

/-- The table of container lengths (30_encoding.md R77) and what it shows (R78). -/
def Obligations.ContainerLengths : Prop :=
  (∀ n len : Nat, containerLen n = some len ↔
      (len, n) ∈ [(48, 2), (64, 3), (80, 4), (112, 5), (128, 6), (144, 7), (160, 8), (176, 9), (192, 10), (208, 11),
        (224, 12), (256, 13), (272, 14), (288, 15)]) ∧
    (∀ n len : Nat, containerLen n = some len → len % 16 = 0 ∧ 18 * n + 8 ≤ len)

/-- Only the eight COMPARE instructions write `cc` (10_state.md R30). -/
def Obligations.OnlyCompareWritesConditionCodes : Prop :=
  ∀ (i : Instr) (s t : State), i.isCompare = false → exec i s = .next t → t.cc = s.cc

/-- Which instructions do not reach which register file, so that none moves a value between the two (10_state.md R22,
R27). -/
def Obligations.RegisterFilesAreSeparate : Prop :=
  (∀ (i : Instr) (s : State) (xs : List XVal), i.form.namesX = false →
      exec i { s with x := xs } = mapNext (fun t => { t with x := xs }) (exec i s)) ∧
    (∀ (i : Instr) (s : State) (fs : List FVal), i.form.namesF = false →
      exec i { s with f := fs } = mapNext (fun t => { t with f := fs }) (exec i s))

/-- No instruction is predicated, and no flag reaches anything but the flags (10_state.md R34, 44_flag_svc.md R326). The
answers are compared with the flags taken out; what SFC, CFC and CTF do to the flags is
Obligations.FlagInstructionsWriteOneFlag. -/
def Obligations.FlagsAreWriteOnly : Prop :=
  (∀ (i : Instr) (s : State) (p : List Bool), p.length = s.pf.length →
      mapNext (fun t => { t with pf := [] }) (exec i { s with pf := p }) =
        mapNext (fun t => { t with pf := [] }) (exec i s)) ∧
    (∀ (i : Instr) (s t : State), i.form.namesFlag = false → exec i s = .next t → t.pf = s.pf)

/-- All 139 instructions behave the same in every mode and none reads or writes it (60_exceptions.md R351, derived there). -/
def Obligations.ModeDoesNotMatter : Prop :=
  ∀ (i : Instr) (s : State) (m : Mode), exec i { s with mode := m } = mapNext (fun t => { t with mode := m }) (exec i s)

/-- With both registers in the file, each LOAD completes in sequence; the destination's low N bits are the source's and
its upper bits copies of bit N-1; nothing else changes. (40_integer_operate.md R113) -/
def Obligations.LoadSignExtends : Prop :=
  ∀ rd rs s, rd < s.nireg → rs < s.nireg →
    WritesValue .sign 8 rd (uval 8 (s.readX rs)) s (exec (.lb rd rs) s) ∧
    WritesValue .sign 16 rd (uval 16 (s.readX rs)) s (exec (.lh rd rs) s) ∧
    WritesValue .sign 32 rd (uval 32 (s.readX rs)) s (exec (.l rd rs) s) ∧
    WritesValue .sign 64 rd (uval 64 (s.readX rs)) s (exec (.ll rd rs) s)

/-- With both registers in the file, each UNSIGNED LOAD completes in sequence; the destination's low N bits are the
source's and its upper bits 0; nothing else changes. (40_integer_operate.md R115) -/
def Obligations.UnsignedLoadClears : Prop :=
  ∀ rd rs s, rd < s.nireg → rs < s.nireg →
    WritesValue .zero 8 rd (uval 8 (s.readX rs)) s (exec (.ulb rd rs) s) ∧
    WritesValue .zero 16 rd (uval 16 (s.readX rs)) s (exec (.ulh rd rs) s) ∧
    WritesValue .zero 32 rd (uval 32 (s.readX rs)) s (exec (.ul rd rs) s)

/-- With both registers in the file, each INSERT completes in sequence; the destination's low N bits are the source's and
its upper bits are its own; nothing else changes. (40_integer_operate.md R116) -/
def Obligations.InsertKeepsTheRest : Prop :=
  ∀ rd rs s, rd < s.nireg → rs < s.nireg →
    WritesValue .unchanged 8 rd (uval 8 (s.readX rs)) s (exec (.ib rd rs) s) ∧
    WritesValue .unchanged 16 rd (uval 16 (s.readX rs)) s (exec (.ih rd rs) s) ∧
    WritesValue .unchanged 32 rd (uval 32 (s.readX rs)) s (exec (.i rd rs) s)

/-- With both registers in the file, each STORE completes in sequence; the destination's low N bits are the source's, its
upper bits follow ST_UPPER (the spec's parameter, D18); nothing else changes. (40_integer_operate.md R114) -/
def Obligations.StoreFillsTheDestination : Prop :=
  ∀ rd rs s, rd < s.nireg → rs < s.nireg →
    WritesValue (upperExt s.par.stUpper) 8 rd (uval 8 (s.readX rs)) s (exec (.stb rd rs) s) ∧
    WritesValue (upperExt s.par.stUpper) 16 rd (uval 16 (s.readX rs)) s (exec (.sth rd rs) s) ∧
    WritesValue (upperExt s.par.stUpper) 32 rd (uval 32 (s.readX rs)) s (exec (.st rd rs) s) ∧
    WritesValue (upperExt s.par.stUpper) 64 rd (uval 64 (s.readX rs)) s (exec (.stl rd rs) s)

/-- With both registers in the file, each SWAP completes in sequence; each register's low N bits are the other's of
before, the upper bits of both follow SW_UPPER (the spec's parameter, D19); nothing else changes. It holds for one
register named twice. (40_integer_operate.md R124) -/
def Obligations.SwapExchangesLocations : Prop :=
  ∀ rd rs s, rd < s.nireg → rs < s.nireg →
    Exchanges (upperExt s.par.swUpper) 8 rd rs s (exec (.swb rd rs) s) ∧
    Exchanges (upperExt s.par.swUpper) 16 rd rs s (exec (.swh rd rs) s) ∧
    Exchanges (upperExt s.par.swUpper) 32 rd rs s (exec (.sw rd rs) s) ∧
    Exchanges (upperExt s.par.swUpper) 64 rd rs s (exec (.swl rd rs) s)

/-- With both registers in the file, each ADD completes in sequence with the sum of the two locations modulo 2^N in the
destination and each SUBTRACT with the destination less the source (90_conflicts.md C1), upper bits by NARROW_EXT (the
spec's parameter, D16, notes/assumptions/19.md); nothing else changes, and nothing is raised on overflow (the spec's
decision D20). (00_scope.md R18, 40_integer_operate.md R117, 40_integer_operate.md R118, 60_exceptions.md R342,
90_conflicts.md C1) -/
def Obligations.AddAndSubtractWrap : Prop :=
  (∀ rd rs s, rd < s.nireg → rs < s.nireg →
    WritesValue s.par.narrowExt 8 rd (uval 8 (s.readX rd) + uval 8 (s.readX rs)) s (exec (.ab rd rs) s) ∧
    WritesValue s.par.narrowExt 16 rd (uval 16 (s.readX rd) + uval 16 (s.readX rs)) s (exec (.ah rd rs) s) ∧
    WritesValue s.par.narrowExt 32 rd (uval 32 (s.readX rd) + uval 32 (s.readX rs)) s (exec (.a rd rs) s) ∧
    WritesValue s.par.narrowExt 64 rd (uval 64 (s.readX rd) + uval 64 (s.readX rs)) s (exec (.al rd rs) s)) ∧
    (∀ rd rs s, rd < s.nireg → rs < s.nireg →
    WritesValue s.par.narrowExt 8 rd (uval 8 (s.readX rd) - uval 8 (s.readX rs)) s (exec (.sb rd rs) s) ∧
    WritesValue s.par.narrowExt 16 rd (uval 16 (s.readX rd) - uval 16 (s.readX rs)) s (exec (.sh rd rs) s) ∧
    WritesValue s.par.narrowExt 32 rd (uval 32 (s.readX rd) - uval 32 (s.readX rs)) s (exec (.s rd rs) s) ∧
    WritesValue s.par.narrowExt 64 rd (uval 64 (s.readX rd) - uval 64 (s.readX rs)) s (exec (.sl rd rs) s))

/-- With both registers in the file, each MULTIPLY completes in sequence with the signed product modulo 2^N in the
destination, sign-extended to the register; nothing else changes. (40_integer_operate.md R120) -/
def Obligations.MultiplyKeepsTheLowHalf : Prop :=
  ∀ rd rs s, rd < s.nireg → rs < s.nireg →
    WritesValue .sign 8 rd (sval 8 (s.readX rd) * sval 8 (s.readX rs)) s (exec (.mb rd rs) s) ∧
    WritesValue .sign 16 rd (sval 16 (s.readX rd) * sval 16 (s.readX rs)) s (exec (.mh rd rs) s) ∧
    WritesValue .sign 32 rd (sval 32 (s.readX rd) * sval 32 (s.readX rs)) s (exec (.m rd rs) s) ∧
    WritesValue .sign 64 rd (sval 64 (s.readX rd) * sval 64 (s.readX rs)) s (exec (.ml rd rs) s)

/-- With both registers in the file, each of the twelve logical instructions completes in sequence; each of the
destination's low N bits is the operation of the two registers' bits, the upper bits follow NARROW_EXT (the spec's
parameter, D16, notes/assumptions/19.md); nothing else changes. (40_integer_operate.md R123, 00_scope.md R18) -/
def Obligations.LogicalOperationsAreBitwise : Prop :=
  ∀ rd rs s, rd < s.nireg → rs < s.nireg →
    WritesBits s.par.narrowExt 8 rd (fun j => (s.readX rd).getLsbD j && (s.readX rs).getLsbD j) s
      (exec (.nb rd rs) s) ∧
    WritesBits s.par.narrowExt 16 rd (fun j => (s.readX rd).getLsbD j && (s.readX rs).getLsbD j) s
      (exec (.nh rd rs) s) ∧
    WritesBits s.par.narrowExt 32 rd (fun j => (s.readX rd).getLsbD j && (s.readX rs).getLsbD j) s
      (exec (.n rd rs) s) ∧
    WritesBits s.par.narrowExt 64 rd (fun j => (s.readX rd).getLsbD j && (s.readX rs).getLsbD j) s
      (exec (.nl rd rs) s) ∧
    WritesBits s.par.narrowExt 8 rd (fun j => (s.readX rd).getLsbD j || (s.readX rs).getLsbD j) s
      (exec (.ob rd rs) s) ∧
    WritesBits s.par.narrowExt 16 rd (fun j => (s.readX rd).getLsbD j || (s.readX rs).getLsbD j) s
      (exec (.oh rd rs) s) ∧
    WritesBits s.par.narrowExt 32 rd (fun j => (s.readX rd).getLsbD j || (s.readX rs).getLsbD j) s
      (exec (.o rd rs) s) ∧
    WritesBits s.par.narrowExt 64 rd (fun j => (s.readX rd).getLsbD j || (s.readX rs).getLsbD j) s
      (exec (.ol rd rs) s) ∧
    WritesBits s.par.narrowExt 8 rd (fun j => (s.readX rd).getLsbD j ^^ (s.readX rs).getLsbD j) s
      (exec (.xb rd rs) s) ∧
    WritesBits s.par.narrowExt 16 rd (fun j => (s.readX rd).getLsbD j ^^ (s.readX rs).getLsbD j) s
      (exec (.xh rd rs) s) ∧
    WritesBits s.par.narrowExt 32 rd (fun j => (s.readX rd).getLsbD j ^^ (s.readX rs).getLsbD j) s
      (exec (.x rd rs) s) ∧
    WritesBits s.par.narrowExt 64 rd (fun j => (s.readX rd).getLsbD j ^^ (s.readX rs).getLsbD j) s
      (exec (.xl rd rs) s)

/-- An integer COMPARE reports the signed and the unsigned order, destination against source, and clears the overflow bit
(40_integer_operate.md R119, decisions D26 and D27; the record is a choice of the spec, and `cc.raw` and `cc.c` stay
free). -/
def Obligations.CompareReportsBothOrders : Prop :=
  ∀ rd rs s, rd < s.nireg → rs < s.nireg →
    (∃ t, exec (.cb rd rs) s = .next t ∧ OnlyCC s t ∧ ReportsOrders 8 (s.readX rd) (s.readX rs) t.cc) ∧
    (∃ t, exec (.ch rd rs) s = .next t ∧ OnlyCC s t ∧ ReportsOrders 16 (s.readX rd) (s.readX rs) t.cc) ∧
    (∃ t, exec (.c rd rs) s = .next t ∧ OnlyCC s t ∧ ReportsOrders 32 (s.readX rd) (s.readX rs) t.cc) ∧
    (∃ t, exec (.cl rd rs) s = .next t ∧ OnlyCC s t ∧ ReportsOrders 64 (s.readX rd) (s.readX rs) t.cc)

/-- DIVIDE of signed operands (40_integer_operate.md R121; the truncation is the spec's decision D23, the operand order
its parameter D37, both notes/assumptions/17.md, the upper bits its parameter D16, notes/assumptions/19.md). -/
def Obligations.DivideTruncates : Prop :=
  ∀ rd rs s, rd < s.nireg → rs < s.nireg →
    (s.signedDivisor 8 rd rs ≠ 0 →
      ¬(s.signedDividend 8 rd rs = -2 ^ 7 ∧
        s.signedDivisor 8 rd rs = -1) →
      WritesValue s.par.narrowExt 8 rd (Int.tdiv (s.signedDividend 8 rd rs)
        (s.signedDivisor 8 rd rs)) s (exec (.db rd rs) s)) ∧
    (s.signedDivisor 16 rd rs ≠ 0 →
      ¬(s.signedDividend 16 rd rs = -2 ^ 15 ∧
        s.signedDivisor 16 rd rs = -1) →
      WritesValue s.par.narrowExt 16 rd (Int.tdiv (s.signedDividend 16 rd rs)
        (s.signedDivisor 16 rd rs)) s (exec (.dh rd rs) s)) ∧
    (s.signedDivisor 32 rd rs ≠ 0 →
      ¬(s.signedDividend 32 rd rs = -2 ^ 31 ∧
        s.signedDivisor 32 rd rs = -1) →
      WritesValue s.par.narrowExt 32 rd (Int.tdiv (s.signedDividend 32 rd rs)
        (s.signedDivisor 32 rd rs)) s (exec (.d rd rs) s)) ∧
    (s.signedDivisor 64 rd rs ≠ 0 →
      ¬(s.signedDividend 64 rd rs = -2 ^ 63 ∧
        s.signedDivisor 64 rd rs = -1) →
      WritesValue s.par.narrowExt 64 rd (Int.tdiv (s.signedDividend 64 rd rs)
        (s.signedDivisor 64 rd rs)) s (exec (.dl rd rs) s))

/-- DIVIDE UNSIGNED (40_integer_operate.md R122; the upper bits are the spec's parameter D17, the operand order D37). -/
def Obligations.DivideUnsignedFloors : Prop :=
  ∀ rd rs s, rd < s.nireg → rs < s.nireg →
    (s.unsignedDivisor 8 rd rs ≠ 0 →
      WritesValue s.par.uext 8 rd (s.unsignedDividend 8 rd rs /
        s.unsignedDivisor 8 rd rs) s (exec (.dub rd rs) s)) ∧
    (s.unsignedDivisor 16 rd rs ≠ 0 →
      WritesValue s.par.uext 16 rd (s.unsignedDividend 16 rd rs /
        s.unsignedDivisor 16 rd rs) s (exec (.duh rd rs) s)) ∧
    (s.unsignedDivisor 32 rd rs ≠ 0 →
      WritesValue s.par.uext 32 rd (s.unsignedDividend 32 rd rs /
        s.unsignedDivisor 32 rd rs) s (exec (.du rd rs) s)) ∧
    (s.unsignedDivisor 64 rd rs ≠ 0 →
      WritesValue s.par.uext 64 rd (s.unsignedDividend 64 rd rs /
        s.unsignedDivisor 64 rd rs) s (exec (.dul rd rs) s))

/-- MEH and ME, with both registers in the file, complete with the exact signed product as the destination register's
signed value. MEL, with an even destination and the register following in the file, completes with it as the signed
value of the pair. Nothing else changes. Signedness is the spec's decision D43. (40_integer_operate.md R125,
10_state.md R23) -/
def Obligations.MultiplyExtensiblyGivesTheFullProduct : Prop :=
  (∀ rd rs s, rd < s.nireg → rs < s.nireg →
      (∃ t, exec (.meh rd rs) s = .next t ∧ OnlyX [rd] s t ∧
        (t.readX rd).toInt = sval 16 (s.readX rd) * sval 16 (s.readX rs)) ∧
      (∃ t, exec (.me rd rs) s = .next t ∧ OnlyX [rd] s t ∧
        (t.readX rd).toInt = sval 32 (s.readX rd) * sval 32 (s.readX rs))) ∧
    (∀ rd rs s, rd % 2 = 0 → rd + 1 < s.nireg → rs < s.nireg →
      ∃ t, exec (.mel rd rs) s = .next t ∧ OnlyX [rd, rd + 1] s t ∧
        (t.readPair rd).toInt = (s.readX rd).toInt * (s.readX rs).toInt)

/-- With the registers each form names in the file (an even destination for DEL), a divisor that is not 0 and not the most
negative dividend by -1, DEH, DE and DEL complete in sequence: the double-length quotient is the signed value of the
place of the dividend and the remainder that of the register after it, magnitudes divided and both signed by whether
the operands agree in sign; nothing else changes. (40_integer_operate.md R126, 00_scope.md R16, 10_state.md R23,
90_conflicts.md C7) -/
def Obligations.DivideExtensiblyFollowsTheSignRule : Prop :=
  (∀ rd rs s, rd + 1 < s.nireg → rs < s.nireg →
      (sval 16 (s.readX rs) ≠ 0 → ¬(sval 32 (s.readX rd) = -2 ^ 31 ∧ sval 16 (s.readX rs) = -1) →
        ∃ t q r, exec (.deh rd rs) s = .next t ∧ OnlyX [rd, rd + 1] s t ∧
          SignedDivision (sval 32 (s.readX rd)) (sval 16 (s.readX rs)) q r ∧
          (t.readX rd).toInt = q ∧ (t.readX (rd + 1)).toInt = r) ∧
      (sval 32 (s.readX rs) ≠ 0 → ¬((s.readX rd).toInt = -2 ^ 63 ∧ sval 32 (s.readX rs) = -1) →
        ∃ t q r, exec (.de rd rs) s = .next t ∧ OnlyX [rd, rd + 1] s t ∧
          SignedDivision (s.readX rd).toInt (sval 32 (s.readX rs)) q r ∧
          (t.readX rd).toInt = q ∧ (t.readX (rd + 1)).toInt = r)) ∧
    (∀ rd rs s, rd % 2 = 0 → rd + 2 < s.nireg → rs < s.nireg → (s.readX rs).toInt ≠ 0 →
      ¬((s.readPair rd).toInt = -2 ^ 127 ∧ (s.readX rs).toInt = -1) →
      ∃ t q r, exec (.del rd rs) s = .next t ∧ OnlyX [rd, rd + 1, rd + 2] s t ∧
        SignedDivision (s.readPair rd).toInt (s.readX rs).toInt q r ∧
        (t.readPair rd).toInt = q ∧ (t.readX (rd + 2)).toInt = r)

/-- With the registers each form names in the file (an even destination for DEUL) and a divisor that is not 0, DEUH, DEU
and DEUL complete in sequence with the double-length unsigned quotient in the place of the dividend and the remainder
in the register after it; narrow results are extended by UEXT (the spec's parameter, D17); nothing else changes.
(40_integer_operate.md R127, 00_scope.md R16, 10_state.md R23) -/
def Obligations.DivideExtensiblyUnsignedFloors : Prop :=
  (∀ rd rs s, rd + 1 < s.nireg → rs < s.nireg →
      (uval 16 (s.readX rs) ≠ 0 →
        ∃ t, exec (.deuh rd rs) s = .next t ∧ OnlyX [rd, rd + 1] s t ∧
          Fills s.par.uext 32 rd (uval 32 (s.readX rd) / uval 16 (s.readX rs)) s t ∧
          Fills s.par.uext 16 (rd + 1) (uval 32 (s.readX rd) % uval 16 (s.readX rs)) s t) ∧
      (uval 32 (s.readX rs) ≠ 0 →
        ∃ t, exec (.deu rd rs) s = .next t ∧ OnlyX [rd, rd + 1] s t ∧
          Fills s.par.uext 64 rd (uval 64 (s.readX rd) / uval 32 (s.readX rs)) s t ∧
          Fills s.par.uext 32 (rd + 1) (uval 64 (s.readX rd) % uval 32 (s.readX rs)) s t)) ∧
    (∀ rd rs s, rd % 2 = 0 → rd + 2 < s.nireg → rs < s.nireg → (s.readX rs).toNat ≠ 0 →
      ∃ t, exec (.deul rd rs) s = .next t ∧ OnlyX [rd, rd + 1, rd + 2] s t ∧
        (t.readPair rd).toNat = (s.readPair rd).toNat / (s.readX rs).toNat ∧
        (t.readX (rd + 2)).toNat = (s.readPair rd).toNat % (s.readX rs).toNat)

/-- For every divisor that is not 0: the quotient's magnitude is the floor of the magnitudes' quotient, the remainder's
magnitude what is left, both non-negative when the operands have the same sign and non-positive otherwise; the
quotient is the one truncated toward zero; dividend = quotient * divisor + remainder holds for a positive divisor and
fails for 7 by -2. Unsigned division is floor and modulus. (00_scope.md R16) -/
def Obligations.DivisionHelpersFollowTheSource : Prop :=
  (∀ a b : Int, b ≠ 0 →
      SignedDivision a b (divmag a b).1 (divmag a b).2 ∧
      ((divmag a b).2.natAbs : Int) = a.natAbs - (divmag a b).1.natAbs * b.natAbs ∧
      (divmag a b).1 = Int.tdiv a b ∧
      (0 < b → a = (divmag a b).1 * b + (divmag a b).2) ∧
      (b < 0 → (divmag a b).2 ≠ 0 → a ≠ (divmag a b).1 * b + (divmag a b).2)) ∧
    divmag 7 (-2) = (-3, -1) ∧
    (∀ a b : Nat, b ≠ 0 → udiv a b = (a / b, a % b))

/-- With the registers each form names in the file (and an even destination for DEL and DEUL), a divisor of 0 ends the run
with DivideByZero, recording the word the program counter names (State.word, notes/assumptions/15.md); the outcome is
the spec's decision D21. (40_integer_operate.md R121, 40_integer_operate.md R122, 40_integer_operate.md R126,
40_integer_operate.md R127, 60_exceptions.md R341) -/
def Obligations.DivideByZeroStops : Prop :=
  (∀ rd rs s, rd < s.nireg → rs < s.nireg →
      (s.signedDivisor 8 rd rs = 0 → exec (.db rd rs) s = .fault (.divideByZero s.word)) ∧
      (s.signedDivisor 16 rd rs = 0 → exec (.dh rd rs) s = .fault (.divideByZero s.word)) ∧
      (s.signedDivisor 32 rd rs = 0 → exec (.d rd rs) s = .fault (.divideByZero s.word)) ∧
      (s.signedDivisor 64 rd rs = 0 → exec (.dl rd rs) s = .fault (.divideByZero s.word)) ∧
      (s.unsignedDivisor 8 rd rs = 0 → exec (.dub rd rs) s = .fault (.divideByZero s.word)) ∧
      (s.unsignedDivisor 16 rd rs = 0 → exec (.duh rd rs) s = .fault (.divideByZero s.word)) ∧
      (s.unsignedDivisor 32 rd rs = 0 → exec (.du rd rs) s = .fault (.divideByZero s.word)) ∧
      (s.unsignedDivisor 64 rd rs = 0 → exec (.dul rd rs) s = .fault (.divideByZero s.word))) ∧
    (∀ rd rs s, rd + 1 < s.nireg → rs < s.nireg →
      (uval 16 (s.readX rs) = 0 → exec (.deh rd rs) s = .fault (.divideByZero s.word)) ∧
      (uval 32 (s.readX rs) = 0 → exec (.de rd rs) s = .fault (.divideByZero s.word)) ∧
      (uval 16 (s.readX rs) = 0 → exec (.deuh rd rs) s = .fault (.divideByZero s.word)) ∧
      (uval 32 (s.readX rs) = 0 → exec (.deu rd rs) s = .fault (.divideByZero s.word))) ∧
    (∀ rd rs s, rd % 2 = 0 → rd + 2 < s.nireg → rs < s.nireg →
      (s.readX rs = 0 → exec (.del rd rs) s = .fault (.divideByZero s.word)) ∧
      (s.readX rs = 0 → exec (.deul rd rs) s = .fault (.divideByZero s.word)))

/-- With the registers each form names in the file (and an even destination for DEL), the most negative dividend by -1
ends the run with DivideOverflow, recording the word the program counter names (State.word, notes/assumptions/15.md);
the outcome is the spec's decision D22. (40_integer_operate.md R121, 40_integer_operate.md R126, 60_exceptions.md
R341) -/
def Obligations.DivideOverflowStops : Prop :=
  (∀ rd rs s, rd < s.nireg → rs < s.nireg →
      (s.signedDividend 8 rd rs = -2 ^ 7 →
        s.signedDivisor 8 rd rs = -1 →
        exec (.db rd rs) s = .fault (.divideOverflow s.word)) ∧
      (s.signedDividend 16 rd rs = -2 ^ 15 →
        s.signedDivisor 16 rd rs = -1 →
        exec (.dh rd rs) s = .fault (.divideOverflow s.word)) ∧
      (s.signedDividend 32 rd rs = -2 ^ 31 →
        s.signedDivisor 32 rd rs = -1 →
        exec (.d rd rs) s = .fault (.divideOverflow s.word)) ∧
      (s.signedDividend 64 rd rs = -2 ^ 63 →
        s.signedDivisor 64 rd rs = -1 →
        exec (.dl rd rs) s = .fault (.divideOverflow s.word))) ∧
    (∀ rd rs s, rd + 1 < s.nireg → rs < s.nireg →
      (sval 32 (s.readX rd) = -2 ^ 31 → sval 16 (s.readX rs) = -1 →
        exec (.deh rd rs) s = .fault (.divideOverflow s.word)) ∧
      ((s.readX rd).toInt = -2 ^ 63 → sval 32 (s.readX rs) = -1 →
        exec (.de rd rs) s = .fault (.divideOverflow s.word))) ∧
    (∀ rd rs s, rd % 2 = 0 → rd + 2 < s.nireg → rs < s.nireg →
      (s.readPair rd).toInt = -2 ^ 127 → (s.readX rs).toInt = -1 →
      exec (.del rd rs) s = .fault (.divideOverflow s.word))

/-- An operate instruction with an operand outside its file, a shift of a register outside the file, MEL, DEL and DEUL
with an odd destination, and a MEL, DEH, DE, DEUH, DEU, DEL or DEUL whose following registers are outside the file
stop with RegisterSpecification, recording the word the program counter names (State.word, notes/assumptions/15.md);
no branch, flag instruction or SVC ever stops so. The check, and that numbering does not wrap, are the spec's decision
D24. (00_scope.md R17, 10_state.md R23, 40_integer_operate.md R111, 41_float_operate.md R207, 42_shift_rotate.md R251,
40_integer_operate.md R125, 40_integer_operate.md R126) -/
def Obligations.RegisterNumbersAreChecked : Prop :=
  (∀ (i : Instr) (s : State),
    match i.form with
    | .intOp rd rs => ¬(rd < s.nireg ∧ rs < s.nireg) → exec i s = .fault (.registerSpecification s.word)
    | .floatOp rd rs => ¬(rd < s.nfreg ∧ rs < s.nfreg) → exec i s = .fault (.registerSpecification s.word)
    | .shift size reg cnt =>
      cnt < size.width → s.nireg ≤ reg → exec i s = .fault (.registerSpecification s.word)
    | .branch _ => ∀ w, exec i s ≠ .fault (.registerSpecification w)
    | .flag _ _ => ∀ w, exec i s ≠ .fault (.registerSpecification w)
    | .svc _ => ∀ w, exec i s ≠ .fault (.registerSpecification w)) ∧
    ((∀ rd rs s, rd % 2 = 1 →
      exec (.mel rd rs) s = .fault (.registerSpecification s.word) ∧
      exec (.del rd rs) s = .fault (.registerSpecification s.word) ∧
      exec (.deul rd rs) s = .fault (.registerSpecification s.word)) ∧
    (∀ rd rs s, s.nireg ≤ rd + 1 →
      exec (.mel rd rs) s = .fault (.registerSpecification s.word) ∧
      exec (.deh rd rs) s = .fault (.registerSpecification s.word) ∧
      exec (.de rd rs) s = .fault (.registerSpecification s.word) ∧
      exec (.deuh rd rs) s = .fault (.registerSpecification s.word) ∧
      exec (.deu rd rs) s = .fault (.registerSpecification s.word)) ∧
    (∀ rd rs s, s.nireg ≤ rd + 2 →
      exec (.del rd rs) s = .fault (.registerSpecification s.word) ∧
      exec (.deul rd rs) s = .fault (.registerSpecification s.word)))

/-- The dividend is located as the result of the MULTIPLY EXTENSIBLY instruction (40_integer_operate.md R126), so the two
instructions fit together; signedness is the spec's decision D43. -/
def Obligations.DivisionUndoesMultiplication : Prop :=
  ∀ (rd rs : Nat) (s : State), rd % 2 = 0 → rd + 2 < s.nireg → rs < s.nireg → rs ≠ rd → rs ≠ rd + 1 → s.readX rs ≠ 0 →
    ∃ t v, exec (.mel rd rs) s = .next t ∧ exec (.del rd rs) t = .next v ∧
      (v.readPair rd).toInt = (s.readX rd).toInt ∧ v.readX (rd + 2) = 0

/-- Each of SB, SH, S, SL, XB, XH, X, XL with one register named twice completes in sequence, changes nothing else and
leaves the low N bits 0; the whole register is 0 for SL and XL whatever the parameters, and for the narrower forms
unless NARROW_EXT (the spec's parameter, D16, notes/assumptions/19.md) leaves the upper bits unchanged.
(70_reset_and_hazards.md R373, 40_integer_operate.md R118, 40_integer_operate.md R123) -/
def Obligations.ClearingARegister : Prop :=
  ∀ d s, d < s.nireg →
    (∃ t, exec (.sb d d) s = .next t ∧ OnlyX [d] s t ∧ uval 8 (t.readX d) = 0 ∧
      (s.par.narrowExt ≠ .unchanged → t.readX d = 0)) ∧
    (∃ t, exec (.sh d d) s = .next t ∧ OnlyX [d] s t ∧ uval 16 (t.readX d) = 0 ∧
      (s.par.narrowExt ≠ .unchanged → t.readX d = 0)) ∧
    (∃ t, exec (.s d d) s = .next t ∧ OnlyX [d] s t ∧ uval 32 (t.readX d) = 0 ∧
      (s.par.narrowExt ≠ .unchanged → t.readX d = 0)) ∧
    (∃ t, exec (.sl d d) s = .next t ∧ OnlyX [d] s t ∧ t.readX d = 0) ∧
    (∃ t, exec (.xb d d) s = .next t ∧ OnlyX [d] s t ∧ uval 8 (t.readX d) = 0 ∧
      (s.par.narrowExt ≠ .unchanged → t.readX d = 0)) ∧
    (∃ t, exec (.xh d d) s = .next t ∧ OnlyX [d] s t ∧ uval 16 (t.readX d) = 0 ∧
      (s.par.narrowExt ≠ .unchanged → t.readX d = 0)) ∧
    (∃ t, exec (.x d d) s = .next t ∧ OnlyX [d] s t ∧ uval 32 (t.readX d) = 0 ∧
      (s.par.narrowExt ≠ .unchanged → t.readX d = 0)) ∧
    (∃ t, exec (.xl d d) s = .next t ∧ OnlyX [d] s t ∧ t.readX d = 0)

/-- With both registers in the floating-point file, LM, LF, LD, LQ, STM, STF, STD, STQ write the destination with
FNUM.load of the source, or FNUM.store of the old destination and the source; SWM, SWF, SWD, SWQ write both registers
with FNUM.swap, one register named twice receiving the first component. Each completes in sequence and changes nothing
else. The record FNUM is the spec's decision D35; that LQ, STQ and SWQ are identities where quadFills holds is the
model's field (notes/assumptions/8.md). (41_float_operate.md R208, 41_float_operate.md R209, 41_float_operate.md R210,
41_float_operate.md R211) -/
def Obligations.FloatLoadStoreSwap : Prop :=
  ∀ rd rs s, rd < s.nfreg → rs < s.nfreg →
    WritesFloat rd (floatLoad s.par .medium (s.readF rs)) s (exec (.lm rd rs) s) ∧
    WritesFloat rd (floatLoad s.par .floating (s.readF rs)) s (exec (.lf rd rs) s) ∧
    WritesFloat rd (floatLoad s.par .double (s.readF rs)) s (exec (.ld rd rs) s) ∧
    WritesFloat rd (floatLoad s.par .quad (s.readF rs)) s (exec (.lq rd rs) s) ∧
    WritesFloat rd (floatStore s.par .medium (s.readF rd) (s.readF rs)) s (exec (.stm rd rs) s) ∧
    WritesFloat rd (floatStore s.par .floating (s.readF rd) (s.readF rs)) s (exec (.stf rd rs) s) ∧
    WritesFloat rd (floatStore s.par .double (s.readF rd) (s.readF rs)) s (exec (.std rd rs) s) ∧
    WritesFloat rd (floatStore s.par .quad (s.readF rd) (s.readF rs)) s (exec (.stq rd rs) s) ∧
    (∃ t, exec (.swm rd rs) s = .next t ∧ OnlyF [rd, rs] s t ∧
      t.readF rd = (floatSwap s.par .medium (s.readF rd) (s.readF rs)).1 ∧
      (rs ≠ rd → t.readF rs = (floatSwap s.par .medium (s.readF rd) (s.readF rs)).2)) ∧
    (∃ t, exec (.swf rd rs) s = .next t ∧ OnlyF [rd, rs] s t ∧
      t.readF rd = (floatSwap s.par .floating (s.readF rd) (s.readF rs)).1 ∧
      (rs ≠ rd → t.readF rs = (floatSwap s.par .floating (s.readF rd) (s.readF rs)).2)) ∧
    (∃ t, exec (.swd rd rs) s = .next t ∧ OnlyF [rd, rs] s t ∧
      t.readF rd = (floatSwap s.par .double (s.readF rd) (s.readF rs)).1 ∧
      (rs ≠ rd → t.readF rs = (floatSwap s.par .double (s.readF rd) (s.readF rs)).2)) ∧
    (∃ t, exec (.swq rd rs) s = .next t ∧ OnlyF [rd, rs] s t ∧
      t.readF rd = (floatSwap s.par .quad (s.readF rd) (s.readF rs)).1 ∧
      (rs ≠ rd → t.readF rs = (floatSwap s.par .quad (s.readF rd) (s.readF rs)).2))

/-- With both registers in the floating-point file, each of the sixteen instructions completes in sequence and writes the
destination with the record's value of destination and source; SUBTRACT is destination minus source and the dividend
of DIVIDE follows DIV_ORDER; nothing else changes, and no value raises a fault (the spec's decisions D35, D38).
(41_float_operate.md R212, 41_float_operate.md R208, 60_exceptions.md R342) -/
def Obligations.FloatArithmeticUsesTheRecord : Prop :=
  ∀ rd rs s, rd < s.nfreg → rs < s.nfreg →
    WritesFloat rd (Config.fnumAdd .medium (s.readF rd) (s.readF rs)) s (exec (.am rd rs) s) ∧
    WritesFloat rd (Config.fnumAdd .floating (s.readF rd) (s.readF rs)) s (exec (.af rd rs) s) ∧
    WritesFloat rd (Config.fnumAdd .double (s.readF rd) (s.readF rs)) s (exec (.ad rd rs) s) ∧
    WritesFloat rd (Config.fnumAdd .quad (s.readF rd) (s.readF rs)) s (exec (.aq rd rs) s) ∧
    WritesFloat rd (Config.fnumSub .medium (s.readF rd) (s.readF rs)) s (exec (.sm rd rs) s) ∧
    WritesFloat rd (Config.fnumSub .floating (s.readF rd) (s.readF rs)) s (exec (.sf rd rs) s) ∧
    WritesFloat rd (Config.fnumSub .double (s.readF rd) (s.readF rs)) s (exec (.sd rd rs) s) ∧
    WritesFloat rd (Config.fnumSub .quad (s.readF rd) (s.readF rs)) s (exec (.sq rd rs) s) ∧
    WritesFloat rd (Config.fnumMul .medium (s.readF rd) (s.readF rs)) s (exec (.mm rd rs) s) ∧
    WritesFloat rd (Config.fnumMul .floating (s.readF rd) (s.readF rs)) s (exec (.mf rd rs) s) ∧
    WritesFloat rd (Config.fnumMul .double (s.readF rd) (s.readF rs)) s (exec (.md rd rs) s) ∧
    WritesFloat rd (Config.fnumMul .quad (s.readF rd) (s.readF rs)) s (exec (.mq rd rs) s) ∧
    (s.par.divOrder = .srcByDst →
      WritesFloat rd (Config.fnumDiv .medium (s.readF rs) (s.readF rd)) s (exec (.dm rd rs) s)) ∧
    (s.par.divOrder = .dstBySrc →
      WritesFloat rd (Config.fnumDiv .medium (s.readF rd) (s.readF rs)) s (exec (.dm rd rs) s)) ∧
    (s.par.divOrder = .srcByDst →
      WritesFloat rd (Config.fnumDiv .floating (s.readF rs) (s.readF rd)) s (exec (.df rd rs) s)) ∧
    (s.par.divOrder = .dstBySrc →
      WritesFloat rd (Config.fnumDiv .floating (s.readF rd) (s.readF rs)) s (exec (.df rd rs) s)) ∧
    (s.par.divOrder = .srcByDst →
      WritesFloat rd (Config.fnumDiv .double (s.readF rs) (s.readF rd)) s (exec (.dd rd rs) s)) ∧
    (s.par.divOrder = .dstBySrc →
      WritesFloat rd (Config.fnumDiv .double (s.readF rd) (s.readF rs)) s (exec (.dd rd rs) s)) ∧
    (s.par.divOrder = .srcByDst →
      WritesFloat rd (Config.fnumDiv .quad (s.readF rs) (s.readF rd)) s (exec (.dq rd rs) s)) ∧
    (s.par.divOrder = .dstBySrc →
      WritesFloat rd (Config.fnumDiv .quad (s.readF rd) (s.readF rs)) s (exec (.dq rd rs) s))

/-- With both registers in the floating-point file, each COMPARE completes in sequence and changes only the condition
codes; where FNUM.cmp of destination against source gives an order, cc.sgn is that order. Every other field is free,
and cc.sgn too where there is no order; the statement holds for every draw (the spec's decision D36).
(41_float_operate.md R213, 10_state.md R31) -/
def Obligations.FloatCompareReportsTheOrder : Prop :=
  ∀ rd rs s, rd < s.nfreg → rs < s.nfreg →
    (∃ t, exec (.cm rd rs) s = .next t ∧ OnlyCC s t ∧
      (Config.fnumCmp .medium (s.readF rd) (s.readF rs) = .minus → t.cc.sgn = .minus) ∧
      (Config.fnumCmp .medium (s.readF rd) (s.readF rs) = .zero → t.cc.sgn = .zero) ∧
      (Config.fnumCmp .medium (s.readF rd) (s.readF rs) = .plus → t.cc.sgn = .plus)) ∧
    (∃ t, exec (.cf rd rs) s = .next t ∧ OnlyCC s t ∧
      (Config.fnumCmp .floating (s.readF rd) (s.readF rs) = .minus → t.cc.sgn = .minus) ∧
      (Config.fnumCmp .floating (s.readF rd) (s.readF rs) = .zero → t.cc.sgn = .zero) ∧
      (Config.fnumCmp .floating (s.readF rd) (s.readF rs) = .plus → t.cc.sgn = .plus)) ∧
    (∃ t, exec (.cd rd rs) s = .next t ∧ OnlyCC s t ∧
      (Config.fnumCmp .double (s.readF rd) (s.readF rs) = .minus → t.cc.sgn = .minus) ∧
      (Config.fnumCmp .double (s.readF rd) (s.readF rs) = .zero → t.cc.sgn = .zero) ∧
      (Config.fnumCmp .double (s.readF rd) (s.readF rs) = .plus → t.cc.sgn = .plus)) ∧
    (∃ t, exec (.cq rd rs) s = .next t ∧ OnlyCC s t ∧
      (Config.fnumCmp .quad (s.readF rd) (s.readF rs) = .minus → t.cc.sgn = .minus) ∧
      (Config.fnumCmp .quad (s.readF rd) (s.readF rs) = .zero → t.cc.sgn = .zero) ∧
      (Config.fnumCmp .quad (s.readF rd) (s.readF rs) = .plus → t.cc.sgn = .plus))

/-- When the model's field quadFills says that FVal is the 128-bit vector of the Q format, its reference instantiation
(notes/assumptions/8.md), LQ and STQ leave the source's content in the destination and SWQ exchanges the two, one
register named twice keeping its content; each completes in sequence and changes nothing else. (41_float_operate.md
R208, 41_float_operate.md R219) -/
def Obligations.QuadFillsItsRegister : Prop :=
  ∀ rd rs s, s.par.quadFills = true → rd < s.nfreg → rs < s.nfreg →
    WritesFloat rd (s.readF rs) s (exec (.lq rd rs) s) ∧
    WritesFloat rd (s.readF rs) s (exec (.stq rd rs) s) ∧
    (∃ t, exec (.swq rd rs) s = .next t ∧ OnlyF [rd, rs] s t ∧ t.readF rd = s.readF rs ∧ t.readF rs = s.readF rd)

/-- The fields of the four formats fill their widths, each bias is two less than a power of two, and the patterns the spec
works out for 1.0 are normalised and have value 1 in M, F, D and Q. A normalised pattern has a significand between one
half and one. The field widths are a reconstruction (notes/assumptions/7.md); which patterns are normalised is open
but for these (notes/assumptions/31.md). (41_float_operate.md R203, 41_float_operate.md R204, 41_float_operate.md
R205) -/
def Obligations.FloatFormatsReadOne : Prop :=
  (∀ t : FType, (floatFormat t).width = 1 + (floatFormat t).expBits + (floatFormat t).sigBits ∧
      (floatFormat t).bias = 2 ^ ((floatFormat t).expBits - 1) - 2) ∧
    (∀ t : FType, floatNormalised t (floatOne t) = true) ∧
    (∀ (t : FType) (v : FPattern), floatNormalised t v = true →
      2 ^ (floatFullBits t - 1) ≤ floatFullSignificand t v ∧ floatFullSignificand t v < 2 ^ floatFullBits t) ∧
    floatOne .floating = 0x3F800000#128 ∧ floatValue .floating 0x3F800000#128 = { num := 2 ^ 23, exp := -23 } ∧
    floatOne .medium = 0x3FE000000000#128 ∧ floatValue .medium 0x3FE000000000#128 = { num := 2 ^ 37, exp := -37 } ∧
    floatOne .double = 0x3FF0000000000000#128 ∧
    floatValue .double 0x3FF0000000000000#128 = { num := 2 ^ 52, exp := -52 } ∧
    floatOne .quad = 0x3FFFFC00000000000000000000000000#128 ∧
    floatValue .quad 0x3FFFFC00000000000000000000000000#128 = { num := 2 ^ 106, exp := -106 }

/-- With the register in the file and a count below the operand width, LSLLC, LSLC, LSLHC, LSLBC complete in sequence with
bit j - c of the operand as bit j (0 below c), LSRLC, LSRC, LSRHC, LSRBC with bit j + c (0 outside the operand); upper
bits by NARROW_EXT (the spec's parameter, D16, notes/assumptions/19.md); nothing else changes. (42_shift_rotate.md
R252, 42_shift_rotate.md R253, 42_shift_rotate.md R254) -/
def Obligations.LogicalShifts : Prop :=
  (∀ reg cnt s, reg < s.nireg →
    (cnt < 64 → WritesBits s.par.narrowExt 64 reg
      (fun j => decide (cnt ≤ j) && (s.readX reg).getLsbD (j - cnt)) s
      (exec (.lsllc reg cnt) s)) ∧
    (cnt < 32 → WritesBits s.par.narrowExt 32 reg
      (fun j => decide (cnt ≤ j) && (s.readX reg).getLsbD (j - cnt)) s
      (exec (.lslc reg cnt) s)) ∧
    (cnt < 16 → WritesBits s.par.narrowExt 16 reg
      (fun j => decide (cnt ≤ j) && (s.readX reg).getLsbD (j - cnt)) s
      (exec (.lslhc reg cnt) s)) ∧
    (cnt < 8 → WritesBits s.par.narrowExt 8 reg
      (fun j => decide (cnt ≤ j) && (s.readX reg).getLsbD (j - cnt)) s
      (exec (.lslbc reg cnt) s))) ∧
    (∀ reg cnt s, reg < s.nireg →
    (cnt < 64 → WritesBits s.par.narrowExt 64 reg
      (fun j => decide (j + cnt < 64) && (s.readX reg).getLsbD (j + cnt)) s
      (exec (.lsrlc reg cnt) s)) ∧
    (cnt < 32 → WritesBits s.par.narrowExt 32 reg
      (fun j => decide (j + cnt < 32) && (s.readX reg).getLsbD (j + cnt)) s
      (exec (.lsrc reg cnt) s)) ∧
    (cnt < 16 → WritesBits s.par.narrowExt 16 reg
      (fun j => decide (j + cnt < 16) && (s.readX reg).getLsbD (j + cnt)) s
      (exec (.lsrhc reg cnt) s)) ∧
    (cnt < 8 → WritesBits s.par.narrowExt 8 reg
      (fun j => decide (j + cnt < 8) && (s.readX reg).getLsbD (j + cnt)) s
      (exec (.lsrbc reg cnt) s)))

/-- With the register in the file and a count below the operand width, each completes in sequence: bit j of the result is
bit j + c of the operand where that is inside it, else bit N-1; upper bits by NARROW_EXT (the spec's parameter, D16,
notes/assumptions/19.md); nothing else changes. (42_shift_rotate.md R255, 42_shift_rotate.md R252) -/
def Obligations.ArithmeticShiftRight : Prop :=
  ∀ reg cnt s, reg < s.nireg →
    (cnt < 64 → WritesBits s.par.narrowExt 64 reg
      (fun j => if j + cnt < 64 then (s.readX reg).getLsbD (j + cnt) else (s.readX reg).getLsbD 63) s
      (exec (.asrlc reg cnt) s)) ∧
    (cnt < 32 → WritesBits s.par.narrowExt 32 reg
      (fun j => if j + cnt < 32 then (s.readX reg).getLsbD (j + cnt) else (s.readX reg).getLsbD 31) s
      (exec (.asrc reg cnt) s)) ∧
    (cnt < 16 → WritesBits s.par.narrowExt 16 reg
      (fun j => if j + cnt < 16 then (s.readX reg).getLsbD (j + cnt) else (s.readX reg).getLsbD 15) s
      (exec (.asrhc reg cnt) s)) ∧
    (cnt < 8 → WritesBits s.par.narrowExt 8 reg
      (fun j => if j + cnt < 8 then (s.readX reg).getLsbD (j + cnt) else (s.readX reg).getLsbD 7) s
      (exec (.asrbc reg cnt) s))

/-- With the register in the file and a count below the operand width, each completes in sequence: bit (j + c) mod N of
the result is bit j of the operand; upper bits by NARROW_EXT (the spec's parameter, D16, notes/assumptions/19.md);
nothing else changes. That a rotate carries no bit through the carry is the ordinary meaning of the word
(notes/assumptions/18.md). (42_shift_rotate.md R252, 42_shift_rotate.md R256) -/
def Obligations.RotateLeft : Prop :=
  ∀ reg cnt s, reg < s.nireg →
    (cnt < 64 → WritesBits s.par.narrowExt 64 reg
      (fun j => (s.readX reg).getLsbD ((j + 64 - cnt) % 64)) s
      (exec (.rllc reg cnt) s)) ∧
    (cnt < 32 → WritesBits s.par.narrowExt 32 reg
      (fun j => (s.readX reg).getLsbD ((j + 32 - cnt) % 32)) s
      (exec (.rlc reg cnt) s)) ∧
    (cnt < 16 → WritesBits s.par.narrowExt 16 reg
      (fun j => (s.readX reg).getLsbD ((j + 16 - cnt) % 16)) s
      (exec (.rlhc reg cnt) s)) ∧
    (cnt < 8 → WritesBits s.par.narrowExt 8 reg
      (fun j => (s.readX reg).getLsbD ((j + 8 - cnt) % 8)) s
      (exec (.rlbc reg cnt) s))

/-- A shift or rotate whose count is at or above its operand width, and SFC, CFC and CTF with condition number 8, 16 or 26
to 31 or a flag number at or above NFLAGS, stop with ReservedInstruction, recording the word the program counter names
(State.word, notes/assumptions/15.md), before any register is checked (90_conflicts.md C8; the spec's decisions D8,
D28, D39). (42_shift_rotate.md R251, 42_shift_rotate.md R259, 44_flag_svc.md R321, 30_encoding.md R98,
60_exceptions.md R346) -/
def Obligations.ReservedOperandsStop : Prop :=
  (∀ (i : Instr) (s : State),
    match i.form with
    | .shift size _ cnt => size.width ≤ cnt → exec i s = .fault (.reservedInstruction s.word)
    | _ => True) ∧
    (∀ k q s, q.toNat = 8 ∨ q.toNat = 16 ∨ 26 ≤ q.toNat ∨ s.nflags ≤ k →
    exec (.sfc k q) s = .fault (.reservedInstruction s.word) ∧
    exec (.cfc k q) s = .fault (.reservedInstruction s.word) ∧
    exec (.ctf k q) s = .fault (.reservedInstruction s.word))

/-- BLR, BER, BLER, BHR, BNER and BHER complete in every state: taken if cc.raw is one of the outcomes in the name, in
sequence otherwise; nothing but the program counter changes. (43_branch.md R288, 43_branch.md R289, 43_branch.md R290,
43_branch.md R291, 43_branch.md R292, 43_branch.md R293, 43_branch.md R285) -/
def Obligations.RawBranches : Prop :=
  ∀ disp s,
    TakenIff (s.cc.raw = .low) disp s (exec (.blr disp) s) ∧
    TakenIff (s.cc.raw = .equal) disp s (exec (.ber disp) s) ∧
    TakenIff (s.cc.raw = .low ∨ s.cc.raw = .equal) disp s (exec (.bler disp) s) ∧
    TakenIff (s.cc.raw = .high) disp s (exec (.bhr disp) s) ∧
    TakenIff (s.cc.raw = .low ∨ s.cc.raw = .high) disp s (exec (.bner disp) s) ∧
    TakenIff (s.cc.raw = .high ∨ s.cc.raw = .equal) disp s (exec (.bher disp) s)

/-- BM, BZ, BMZ, BP, BNZ and BPZ complete in every state: taken if cc.sgn is one of the outcomes in the name, in sequence
otherwise; nothing but the program counter changes. (43_branch.md R295, 43_branch.md R296, 43_branch.md R297,
43_branch.md R298, 43_branch.md R299, 43_branch.md R300, 43_branch.md R285) -/
def Obligations.SignedBranches : Prop :=
  ∀ disp s,
    TakenIff (s.cc.sgn = .minus) disp s (exec (.bm disp) s) ∧
    TakenIff (s.cc.sgn = .zero) disp s (exec (.bz disp) s) ∧
    TakenIff (s.cc.sgn = .minus ∨ s.cc.sgn = .zero) disp s (exec (.bmz disp) s) ∧
    TakenIff (s.cc.sgn = .plus) disp s (exec (.bp disp) s) ∧
    TakenIff (s.cc.sgn = .minus ∨ s.cc.sgn = .plus) disp s (exec (.bnz disp) s) ∧
    TakenIff (s.cc.sgn = .plus ∨ s.cc.sgn = .zero) disp s (exec (.bpz disp) s)

/-- BL, BE, BLE, BH, BNE and BHE complete in every state: taken if cc.uns is one of the outcomes in the name, in sequence
otherwise; nothing but the program counter changes. (43_branch.md R302, 43_branch.md R303, 43_branch.md R304,
43_branch.md R305, 43_branch.md R306, 43_branch.md R307, 43_branch.md R285) -/
def Obligations.UnsignedBranches : Prop :=
  ∀ disp s,
    TakenIff (s.cc.uns = .low) disp s (exec (.bl disp) s) ∧
    TakenIff (s.cc.uns = .equal) disp s (exec (.be disp) s) ∧
    TakenIff (s.cc.uns = .low ∨ s.cc.uns = .equal) disp s (exec (.ble disp) s) ∧
    TakenIff (s.cc.uns = .high) disp s (exec (.bh disp) s) ∧
    TakenIff (s.cc.uns = .low ∨ s.cc.uns = .high) disp s (exec (.bne disp) s) ∧
    TakenIff (s.cc.uns = .high ∨ s.cc.uns = .equal) disp s (exec (.bhe disp) s)

/-- BNV and BV complete in every state, taken if the overflow bit is clear or set; BNC and BC if the carry is clear or
set; B always. Otherwise execution goes on in sequence; nothing but the program counter changes. (43_branch.md R294,
43_branch.md R301, 43_branch.md R308, 43_branch.md R309, 43_branch.md R310, 43_branch.md R285) -/
def Obligations.OverflowAndCarryBranches : Prop :=
  ∀ disp s,
    TakenIff (s.cc.v = false) disp s (exec (.bnv disp) s) ∧
    TakenIff (s.cc.v = true) disp s (exec (.bv disp) s) ∧
    TakenIff (s.cc.c = false) disp s (exec (.bnc disp) s) ∧
    TakenIff (s.cc.c = true) disp s (exec (.bc disp) s) ∧
    TakenIff (True) disp s (exec (.b disp) s)

/-- Under every layout each of the 256 words whose first ten bits are 1110000000 decodes to NOP with its low eight bits;
NOP completes in every state whatever those bits and only the program counter changes; the all-zero word is not NOP.
(43_branch.md R287) -/
def Obligations.NopDoesNothing : Prop :=
  (∀ (L : Layouts) (low : BitVec 8), decodeWith L (0b1110000000#10 ++ low) = some (.nop low)) ∧
    (∀ (L : Layouts), decodeWith L 0#18 = none) ∧
    (∀ (disp : BitVec 8) (s : State), exec (.nop disp) s = .next { s with pc := s.nextPC })

/-- For every value of the condition codes: condition numbers 0 and 7 hold never and always; 1 to 6, 9 to 14 and 17 to 22
hold on the outcomes of the raw, signed and unsigned group that their mask selects; 15 and 25 on the overflow bit
clear and set; 23 and 24 on the carry clear and set. The masks are read from the listing by inference
(notes/assumptions/20.md). (43_branch.md R282) -/
def Obligations.ConditionNumbersSelectOutcomes : Prop :=
  ∀ cc : CC,
    holds 0#5 cc = false ∧ holds 7#5 cc = true ∧
    (holds 1#5 cc = true ↔ cc.raw = .low) ∧
    (holds 2#5 cc = true ↔ cc.raw = .equal) ∧
    (holds 3#5 cc = true ↔ cc.raw = .low ∨ cc.raw = .equal) ∧
    (holds 4#5 cc = true ↔ cc.raw = .high) ∧
    (holds 5#5 cc = true ↔ cc.raw = .low ∨ cc.raw = .high) ∧
    (holds 6#5 cc = true ↔ cc.raw = .equal ∨ cc.raw = .high) ∧
    (holds 9#5 cc = true ↔ cc.sgn = .minus) ∧
    (holds 10#5 cc = true ↔ cc.sgn = .zero) ∧
    (holds 11#5 cc = true ↔ cc.sgn = .minus ∨ cc.sgn = .zero) ∧
    (holds 12#5 cc = true ↔ cc.sgn = .plus) ∧
    (holds 13#5 cc = true ↔ cc.sgn = .minus ∨ cc.sgn = .plus) ∧
    (holds 14#5 cc = true ↔ cc.sgn = .zero ∨ cc.sgn = .plus) ∧
    (holds 17#5 cc = true ↔ cc.uns = .low) ∧
    (holds 18#5 cc = true ↔ cc.uns = .equal) ∧
    (holds 19#5 cc = true ↔ cc.uns = .low ∨ cc.uns = .equal) ∧
    (holds 20#5 cc = true ↔ cc.uns = .high) ∧
    (holds 21#5 cc = true ↔ cc.uns = .low ∨ cc.uns = .high) ∧
    (holds 22#5 cc = true ↔ cc.uns = .equal ∨ cc.uns = .high) ∧
    (holds 15#5 cc = true ↔ cc.v = false) ∧ (holds 25#5 cc = true ↔ cc.v = true) ∧
    (holds 23#5 cc = true ↔ cc.c = false) ∧ (holds 24#5 cc = true ↔ cc.c = true)

/-- For every state and displacement exactly one of each pair is taken and the other goes on in sequence: BLR and BHER,
BER and BNER, BHR and BLER, BM and BPZ, BZ and BNZ, BP and BMZ, BL and BHE, BE and BNE, BH and BLE, BV and BNV, BC and
BNC, B and NOP. (43_branch.md R311, 10_state.md R29) -/
def Obligations.ComplementPairs : Prop :=
  ∀ disp s,
    OneTaken disp s (exec (.blr disp) s) (exec (.bher disp) s) ∧
    OneTaken disp s (exec (.ber disp) s) (exec (.bner disp) s) ∧
    OneTaken disp s (exec (.bhr disp) s) (exec (.bler disp) s) ∧
    OneTaken disp s (exec (.bm disp) s) (exec (.bpz disp) s) ∧
    OneTaken disp s (exec (.bz disp) s) (exec (.bnz disp) s) ∧
    OneTaken disp s (exec (.bp disp) s) (exec (.bmz disp) s) ∧
    OneTaken disp s (exec (.bl disp) s) (exec (.bhe disp) s) ∧
    OneTaken disp s (exec (.be disp) s) (exec (.bne disp) s) ∧
    OneTaken disp s (exec (.bh disp) s) (exec (.ble disp) s) ∧
    OneTaken disp s (exec (.bv disp) s) (exec (.bnv disp) s) ∧
    OneTaken disp s (exec (.bc disp) s) (exec (.bnc disp) s) ∧
    OneTaken disp s (exec (.b disp) s) (exec (.nop disp) s)

/-- With both registers in the file, COMPARE completes at each width, and the next instruction sees its result: BM, BZ, BP
are taken exactly if the destination is less than, equal to, greater than the source as signed numbers, BL, BE, BH as
unsigned ones; BNV is taken and BV is not. That the branch sees the new codes in the next slot is the spec's decision
D40. (43_branch.md R283, 40_integer_operate.md R119, 70_reset_and_hazards.md R375) -/
def Obligations.CompareThenBranch : Prop :=
  ∀ rd rs s, rd < s.nireg → rs < s.nireg →
    (∃ t, exec (.cb rd rs) s = .next t ∧ ∀ disp,
      TakenIff (sval 8 (s.readX rd) < sval 8 (s.readX rs)) disp t (exec (.bm disp) t) ∧
      TakenIff (sval 8 (s.readX rd) = sval 8 (s.readX rs)) disp t (exec (.bz disp) t) ∧
      TakenIff (sval 8 (s.readX rd) > sval 8 (s.readX rs)) disp t (exec (.bp disp) t) ∧
      TakenIff (uval 8 (s.readX rd) < uval 8 (s.readX rs)) disp t (exec (.bl disp) t) ∧
      TakenIff (uval 8 (s.readX rd) = uval 8 (s.readX rs)) disp t (exec (.be disp) t) ∧
      TakenIff (uval 8 (s.readX rd) > uval 8 (s.readX rs)) disp t (exec (.bh disp) t) ∧
      exec (.bnv disp) t = .next (t.jump disp) ∧ exec (.bv disp) t = .next t.advance) ∧
    (∃ t, exec (.ch rd rs) s = .next t ∧ ∀ disp,
      TakenIff (sval 16 (s.readX rd) < sval 16 (s.readX rs)) disp t (exec (.bm disp) t) ∧
      TakenIff (sval 16 (s.readX rd) = sval 16 (s.readX rs)) disp t (exec (.bz disp) t) ∧
      TakenIff (sval 16 (s.readX rd) > sval 16 (s.readX rs)) disp t (exec (.bp disp) t) ∧
      TakenIff (uval 16 (s.readX rd) < uval 16 (s.readX rs)) disp t (exec (.bl disp) t) ∧
      TakenIff (uval 16 (s.readX rd) = uval 16 (s.readX rs)) disp t (exec (.be disp) t) ∧
      TakenIff (uval 16 (s.readX rd) > uval 16 (s.readX rs)) disp t (exec (.bh disp) t) ∧
      exec (.bnv disp) t = .next (t.jump disp) ∧ exec (.bv disp) t = .next t.advance) ∧
    (∃ t, exec (.c rd rs) s = .next t ∧ ∀ disp,
      TakenIff (sval 32 (s.readX rd) < sval 32 (s.readX rs)) disp t (exec (.bm disp) t) ∧
      TakenIff (sval 32 (s.readX rd) = sval 32 (s.readX rs)) disp t (exec (.bz disp) t) ∧
      TakenIff (sval 32 (s.readX rd) > sval 32 (s.readX rs)) disp t (exec (.bp disp) t) ∧
      TakenIff (uval 32 (s.readX rd) < uval 32 (s.readX rs)) disp t (exec (.bl disp) t) ∧
      TakenIff (uval 32 (s.readX rd) = uval 32 (s.readX rs)) disp t (exec (.be disp) t) ∧
      TakenIff (uval 32 (s.readX rd) > uval 32 (s.readX rs)) disp t (exec (.bh disp) t) ∧
      exec (.bnv disp) t = .next (t.jump disp) ∧ exec (.bv disp) t = .next t.advance) ∧
    (∃ t, exec (.cl rd rs) s = .next t ∧ ∀ disp,
      TakenIff (sval 64 (s.readX rd) < sval 64 (s.readX rs)) disp t (exec (.bm disp) t) ∧
      TakenIff (sval 64 (s.readX rd) = sval 64 (s.readX rs)) disp t (exec (.bz disp) t) ∧
      TakenIff (sval 64 (s.readX rd) > sval 64 (s.readX rs)) disp t (exec (.bp disp) t) ∧
      TakenIff (uval 64 (s.readX rd) < uval 64 (s.readX rs)) disp t (exec (.bl disp) t) ∧
      TakenIff (uval 64 (s.readX rd) = uval 64 (s.readX rs)) disp t (exec (.be disp) t) ∧
      TakenIff (uval 64 (s.readX rd) > uval 64 (s.readX rs)) disp t (exec (.bh disp) t) ∧
      exec (.bnv disp) t = .next (t.jump disp) ∧ exec (.bv disp) t = .next t.advance)

/-- With a listed condition number and a flag the machine has, SFC leaves the flag set if the condition holds and as it
was otherwise, CFC leaves it clear if the condition holds and as it was otherwise, CTF leaves it equal to the
condition; each completes in sequence and changes nothing else. (44_flag_svc.md R322, 44_flag_svc.md R323,
44_flag_svc.md R324, 44_flag_svc.md R325, 90_conflicts.md C5) -/
def Obligations.FlagInstructionsWriteOneFlag : Prop :=
  ∀ k q s, listedCond q = true → k < s.nflags →
    (∃ t, exec (.sfc k q) s = .next t ∧ OnlyFlag k s t ∧ t.readFlag k = (if holds q s.cc then true else s.readFlag k)) ∧
    (∃ t, exec (.cfc k q) s = .next t ∧ OnlyFlag k s t ∧ t.readFlag k = (if holds q s.cc then false else s.readFlag k)) ∧
    (∃ t, exec (.ctf k q) s = .next t ∧ OnlyFlag k s t ∧ t.readFlag k = (holds q s.cc))

/-- In every state SVC answers the outcome SupervisorCall with its 8-bit code; the interrupt it is equivalent to is not
described (the spec's decision D29). (44_flag_svc.md R327, 60_exceptions.md R345, 60_exceptions.md R347) -/
def Obligations.SupervisorCallEndsTheRun : Prop :=
  ∀ code s, exec (.svc code) s = .refused (.supervisorCall code)

/-- OPERATE_LAYOUT, SHIFT_LAYOUT, FLAG_LAYOUT and SVC_LAYOUT are parameters of the machine (00_scope.md R7, R8;
30_encoding.md R73, R83, R85, R86): the table in the state can be any of them. That they are held as tables is the
model's choice (notes/assumptions/1.md). -/
def Obligations.EveryLayoutIsATable : Prop :=
  ∀ L : Layouts, ∃ t : LayoutTable, ∀ w : Word, decodeWith (Layouts.ofTable t) w = decodeWith L w
end

