-- ==== Sys2Proof/Laws/Memory.lean ====
section
/-! SUPPORT. The program text: placing a container keeps the canonical form, a placed container is found again and no
other is disturbed, and the containers the model builds itself are well formed. -/

namespace Sys2Proof.Machine

/-- The addresses after placing a container: the new one and those of before. -/
theorem Memory.place_address (a : Nat) (c : Container) (m : Memory) (b : Nat) :
    b ∈ (Memory.place a c m).map Prod.fst ↔ b = a ∨ b ∈ m.map Prod.fst := by
  induction m with
  | nil => simp [Memory.place]
  | cons e m ih =>
    obtain ⟨d, v⟩ := e
    simp only [Memory.place]
    split
    · simp
    · split
      · simp_all
      · simp only [List.map_cons, List.mem_cons, ih]
        tauto

/-- The containers after placing one: it and those of before. -/
theorem Memory.place_entry {a : Nat} {c : Container} {m : Memory} {e : Nat × Container}
    (h : e ∈ Memory.place a c m) : e = (a, c) ∨ e ∈ m := by
  induction m with
  | nil => simpa [Memory.place] using h
  | cons g m ih =>
    obtain ⟨d, v⟩ := g
    simp only [Memory.place] at h
    split at h
    · simpa using h
    · split at h
      · simp only [List.mem_cons] at h ⊢
        tauto
      · simp only [List.mem_cons] at h ⊢
        rcases h with h | h
        · exact .inr (.inl h)
        · rcases ih h with h | h
          · exact .inl h
          · exact .inr (.inr h)

/-- Placing a well-formed container keeps the canonical form of the text. -/
theorem Memory.place_wf {a : Nat} {c : Container} {m : Memory} (hm : m.wf) (hc : c.wf) : (Memory.place a c m).wf := by
  refine ⟨?_, fun e he => ?_⟩
  · have hs := hm.1
    clear hm
    induction m with
    | nil => simp [Memory.place]
    | cons e m ih =>
      obtain ⟨d, v⟩ := e
      simp only [List.map_cons, List.pairwise_cons] at hs
      simp only [Memory.place]
      split
      next h =>
        simp only [List.map_cons, List.pairwise_cons, List.mem_cons]
        exact ⟨fun x hx => hx.elim (fun hx => by omega) fun hx => lt_trans h (hs.1 x hx), hs⟩
      next h =>
        split
        next h' =>
          subst h'
          simpa using hs
        next h' =>
          simp only [List.map_cons, List.pairwise_cons]
          refine ⟨fun x hx => ?_, ih hs.2⟩
          rcases (Memory.place_address a c m x).1 hx with rfl | hx
          · omega
          · exact hs.1 x hx
  · rcases Memory.place_entry he with rfl | he
    · exact hc
    · exact hm.2 e he

/-- No container is found at an address that is not listed. -/
theorem Memory.lookup_none {a : Nat} {m : Memory} (h : ∀ e ∈ m, a < e.1) : m.lookup a = none := by
  induction m with
  | nil => rfl
  | cons e m ih =>
    obtain ⟨d, v⟩ := e
    have hd : a < d := h (d, v) (by simp)
    have : a ≠ d := by omega
    simp only [Memory.lookup, this, if_false]
    exact ih fun e he => h e (by simp [he])

/-- A placed container is the one found at its address; at every other address the text is as before. -/
theorem Memory.lookup_place (a : Nat) (c : Container) {m : Memory} (hm : m.wf) (b : Nat) :
    (Memory.place a c m).lookup b = if b = a then some c else m.lookup b := by
  have hs := hm.1
  clear hm
  induction m with
  | nil => simp [Memory.place, Memory.lookup]
  | cons e m ih =>
    obtain ⟨d, v⟩ := e
    simp only [List.map_cons, List.pairwise_cons] at hs
    simp only [Memory.place]
    split
    next h => simp only [Memory.lookup]
    next h =>
      split
      next h' =>
        subst h'
        simp only [Memory.lookup]
        split <;> rfl
      next h' =>
        simp only [Memory.lookup, ih hs.2]
        by_cases hb : b = d
        · subst hb
          simp only [if_true]
          rw [if_neg (Ne.symm h')]
        · simp [hb]

/-- A container that is found stands in the text at that address. -/
theorem Memory.mem_of_lookup {a : Nat} {c : Container} {m : Memory} (h : m.lookup a = some c) : (a, c) ∈ m := by
  induction m with
  | nil => simp [Memory.lookup] at h
  | cons e m ih =>
    obtain ⟨d, v⟩ := e
    simp only [Memory.lookup] at h
    split at h
    next hd =>
      subst hd
      simp only [Option.some.injEq] at h
      simp [h]
    next => simp [ih h]

/-- A well-formed container holds two to fifteen words (30_encoding.md R76, R77). -/
theorem Container.wf_count {c : Container} (h : c.wf) : 2 ≤ c.words.length ∧ c.words.length ≤ 15 := by
  simp only [Container.wf, containerLen] at h
  split at h <;> simp_all

/-- The container the model builds to hold a word is well formed. -/
theorem fetchContainer_wf (slot : Nat) (h : slot < 15) (w : Word) : (fetchContainer slot w).wf := by
  unfold fetchContainer Container.wf
  simp only [List.length_set, List.length_replicate]
  interval_cases slot <;> rfl

/-- The container to fetch from is well formed if the one that stood there was. -/
theorem fetchContainerIn_wf {old : Option Container} (hold : ∀ c, old = some c → c.wf) (slot : Nat) (h : slot < 15)
    (w : Word) : (fetchContainerIn old slot w).wf := by
  cases old with
  | none => exact fetchContainer_wf slot h w
  | some c =>
    simp only [fetchContainerIn]
    split
    · have := hold c rfl
      simpa [Container.wf] using this
    · exact fetchContainer_wf slot h w

/-- Placing an instruction to fetch keeps the canonical form of the text. -/
theorem State.withFetchWord_wf {s : State} (hs : s.text.wf) (nbits w : Nat) : (s.withFetchWord nbits w).text.wf := by
  refine Memory.place_wf hs (fetchContainerIn_wf (fun c hc => hs.2 _ (Memory.mem_of_lookup hc)) _ ?_ _)
  split <;> omega

/-- The text after reset is in canonical form. -/
theorem State.reset_text_wf : State.reset.text.wf := by
  decide

end Sys2Proof.Machine
end

