-- ==== Sys2Proof/Laws/State.lean ====
section
/-! SUPPORT. One lemma per field of the state per update, true by definition, so that no proof unfolds a record update;
what the derived reads give after a write. -/

namespace Sys2Proof.Machine

@[simp] theorem State.writeX_x (s : State) (n : Nat) (v : XVal) : (s.writeX n v).x = s.x.set n v := rfl

@[simp] theorem State.writeX_f (s : State) (n : Nat) (v : XVal) : (s.writeX n v).f = s.f := rfl

@[simp] theorem State.writeX_cc (s : State) (n : Nat) (v : XVal) : (s.writeX n v).cc = s.cc := rfl

@[simp] theorem State.writeX_pf (s : State) (n : Nat) (v : XVal) : (s.writeX n v).pf = s.pf := rfl

@[simp] theorem State.writeX_pc (s : State) (n : Nat) (v : XVal) : (s.writeX n v).pc = s.pc := rfl

@[simp] theorem State.writeX_mode (s : State) (n : Nat) (v : XVal) : (s.writeX n v).mode = s.mode := rfl

@[simp] theorem State.writeX_text (s : State) (n : Nat) (v : XVal) : (s.writeX n v).text = s.text := rfl

@[simp] theorem State.writeX_par (s : State) (n : Nat) (v : XVal) : (s.writeX n v).par = s.par := rfl

@[simp] theorem State.writeX_draws (s : State) (n : Nat) (v : XVal) : (s.writeX n v).draws = s.draws := rfl

@[simp] theorem State.writeF_x (s : State) (n : Nat) (v : FVal) : (s.writeF n v).x = s.x := rfl

@[simp] theorem State.writeF_f (s : State) (n : Nat) (v : FVal) : (s.writeF n v).f = s.f.set n v := rfl

@[simp] theorem State.writeF_cc (s : State) (n : Nat) (v : FVal) : (s.writeF n v).cc = s.cc := rfl

@[simp] theorem State.writeF_pf (s : State) (n : Nat) (v : FVal) : (s.writeF n v).pf = s.pf := rfl

@[simp] theorem State.writeF_pc (s : State) (n : Nat) (v : FVal) : (s.writeF n v).pc = s.pc := rfl

@[simp] theorem State.writeF_mode (s : State) (n : Nat) (v : FVal) : (s.writeF n v).mode = s.mode := rfl

@[simp] theorem State.writeF_text (s : State) (n : Nat) (v : FVal) : (s.writeF n v).text = s.text := rfl

@[simp] theorem State.writeF_par (s : State) (n : Nat) (v : FVal) : (s.writeF n v).par = s.par := rfl

@[simp] theorem State.writeF_draws (s : State) (n : Nat) (v : FVal) : (s.writeF n v).draws = s.draws := rfl

@[simp] theorem State.writeFlag_x (s : State) (k : Nat) (b : Bool) : (s.writeFlag k b).x = s.x := rfl

@[simp] theorem State.writeFlag_f (s : State) (k : Nat) (b : Bool) : (s.writeFlag k b).f = s.f := rfl

@[simp] theorem State.writeFlag_cc (s : State) (k : Nat) (b : Bool) : (s.writeFlag k b).cc = s.cc := rfl

@[simp] theorem State.writeFlag_pf (s : State) (k : Nat) (b : Bool) : (s.writeFlag k b).pf = s.pf.set k b := rfl

@[simp] theorem State.writeFlag_pc (s : State) (k : Nat) (b : Bool) : (s.writeFlag k b).pc = s.pc := rfl

@[simp] theorem State.writeFlag_mode (s : State) (k : Nat) (b : Bool) : (s.writeFlag k b).mode = s.mode := rfl

@[simp] theorem State.writeFlag_text (s : State) (k : Nat) (b : Bool) : (s.writeFlag k b).text = s.text := rfl

@[simp] theorem State.writeFlag_par (s : State) (k : Nat) (b : Bool) : (s.writeFlag k b).par = s.par := rfl

@[simp] theorem State.writeFlag_draws (s : State) (k : Nat) (b : Bool) : (s.writeFlag k b).draws = s.draws := rfl

@[simp] theorem State.writeCC_x (s : State) (cc : CC) : (s.writeCC cc).x = s.x := rfl

@[simp] theorem State.writeCC_f (s : State) (cc : CC) : (s.writeCC cc).f = s.f := rfl

@[simp] theorem State.writeCC_cc (s : State) (cc : CC) : (s.writeCC cc).cc = cc := rfl

@[simp] theorem State.writeCC_pf (s : State) (cc : CC) : (s.writeCC cc).pf = s.pf := rfl

@[simp] theorem State.writeCC_pc (s : State) (cc : CC) : (s.writeCC cc).pc = s.pc := rfl

@[simp] theorem State.writeCC_mode (s : State) (cc : CC) : (s.writeCC cc).mode = s.mode := rfl

@[simp] theorem State.writeCC_text (s : State) (cc : CC) : (s.writeCC cc).text = s.text := rfl

@[simp] theorem State.writeCC_par (s : State) (cc : CC) : (s.writeCC cc).par = s.par := rfl

@[simp] theorem State.writeCC_draws (s : State) (cc : CC) : (s.writeCC cc).draws = s.draws + 1 := rfl

@[simp] theorem State.advance_x (s : State) : (s.advance).x = s.x := rfl

@[simp] theorem State.advance_f (s : State) : (s.advance).f = s.f := rfl

@[simp] theorem State.advance_cc (s : State) : (s.advance).cc = s.cc := rfl

@[simp] theorem State.advance_pf (s : State) : (s.advance).pf = s.pf := rfl

@[simp] theorem State.advance_pc (s : State) : (s.advance).pc = s.nextPC := rfl

@[simp] theorem State.advance_mode (s : State) : (s.advance).mode = s.mode := rfl

@[simp] theorem State.advance_text (s : State) : (s.advance).text = s.text := rfl

@[simp] theorem State.advance_par (s : State) : (s.advance).par = s.par := rfl

@[simp] theorem State.advance_draws (s : State) : (s.advance).draws = s.draws := rfl

@[simp] theorem State.jump_x (s : State) (disp : BitVec 8) : (s.jump disp).x = s.x := rfl

@[simp] theorem State.jump_f (s : State) (disp : BitVec 8) : (s.jump disp).f = s.f := rfl

@[simp] theorem State.jump_cc (s : State) (disp : BitVec 8) : (s.jump disp).cc = s.cc := rfl

@[simp] theorem State.jump_pf (s : State) (disp : BitVec 8) : (s.jump disp).pf = s.pf := rfl

@[simp] theorem State.jump_pc (s : State) (disp : BitVec 8) : (s.jump disp).pc = { ca := s.branchTarget disp, slot := 0 } := rfl

@[simp] theorem State.jump_mode (s : State) (disp : BitVec 8) : (s.jump disp).mode = s.mode := rfl

@[simp] theorem State.jump_text (s : State) (disp : BitVec 8) : (s.jump disp).text = s.text := rfl

@[simp] theorem State.jump_par (s : State) (disp : BitVec 8) : (s.jump disp).par = s.par := rfl

@[simp] theorem State.jump_draws (s : State) (disp : BitVec 8) : (s.jump disp).draws = s.draws := rfl


/-! ### Sizes of the files -/

@[simp] theorem State.writeX_nireg (s : State) (n : Nat) (v : XVal) : (s.writeX n v).nireg = s.nireg := by
  simp [State.nireg]

@[simp] theorem State.advance_nireg (s : State) : s.advance.nireg = s.nireg := rfl

@[simp] theorem State.writeF_nfreg (s : State) (n : Nat) (v : FVal) : (s.writeF n v).nfreg = s.nfreg := by
  simp [State.nfreg]

@[simp] theorem State.advance_nfreg (s : State) : s.advance.nfreg = s.nfreg := rfl

@[simp] theorem State.writeFlag_nflags (s : State) (k : Nat) (b : Bool) : (s.writeFlag k b).nflags = s.nflags := by
  simp [State.nflags]

@[simp] theorem State.advance_nflags (s : State) : s.advance.nflags = s.nflags := rfl

/-! ### Reads after writes -/

@[simp] theorem State.advance_readX (s : State) (m : Nat) : s.advance.readX m = s.readX m := rfl

@[simp] theorem State.advance_readF (s : State) (m : Nat) : s.advance.readF m = s.readF m := rfl

@[simp] theorem State.advance_readFlag (s : State) (m : Nat) : s.advance.readFlag m = s.readFlag m := rfl

/-- A register of the file reads as it was last written. -/
theorem State.readX_writeX_same (s : State) {n : Nat} (v : XVal) (h : n < s.nireg) : (s.writeX n v).readX n = v := by
  simp only [State.nireg] at h
  simp [State.readX, h]

/-- A write of one integer register leaves the others alone. -/
theorem State.readX_writeX_of_ne (s : State) {n m : Nat} (v : XVal) (h : m ≠ n) :
    (s.writeX n v).readX m = s.readX m := by
  simp [State.readX, List.getD_eq_getElem?_getD, List.getElem?_set_ne (Ne.symm h)]

/-- A floating-point register of the file reads as it was last written. -/
theorem State.readF_writeF_same (s : State) {n : Nat} (v : FVal) (h : n < s.nfreg) : (s.writeF n v).readF n = v := by
  simp only [State.nfreg] at h
  simp [State.readF, h]

/-- A write of one floating-point register leaves the others alone. -/
theorem State.readF_writeF_of_ne (s : State) {n m : Nat} (v : FVal) (h : m ≠ n) :
    (s.writeF n v).readF m = s.readF m := by
  simp [State.readF, List.getD_eq_getElem?_getD, List.getElem?_set_ne (Ne.symm h)]

/-- A flag of the machine reads as it was last written. -/
theorem State.readFlag_writeFlag_same (s : State) {k : Nat} (b : Bool) (h : k < s.nflags) :
    (s.writeFlag k b).readFlag k = b := by
  simp only [State.nflags] at h
  simp [State.readFlag, h]

/-- A write of one flag leaves the others alone. -/
theorem State.readFlag_writeFlag_of_ne (s : State) {k m : Nat} (b : Bool) (h : m ≠ k) :
    (s.writeFlag k b).readFlag m = s.readFlag m := by
  simp [State.readFlag, List.getD_eq_getElem?_getD, List.getElem?_set_ne (Ne.symm h)]

/-! ### What the program counter's next place depends on -/

@[simp] theorem State.writeX_nextPC (s : State) (n : Nat) (v : XVal) : (s.writeX n v).nextPC = s.nextPC := rfl

@[simp] theorem State.writeF_nextPC (s : State) (n : Nat) (v : FVal) : (s.writeF n v).nextPC = s.nextPC := rfl

@[simp] theorem State.writeFlag_nextPC (s : State) (k : Nat) (b : Bool) : (s.writeFlag k b).nextPC = s.nextPC := rfl

@[simp] theorem State.writeCC_nextPC (s : State) (cc : CC) : (s.writeCC cc).nextPC = s.nextPC := rfl

/-! ### Reads after a whole field is replaced -/

@[simp] theorem State.set_x_readF (s : State) (xs : List XVal) (n : Nat) : ({ s with x := xs } : State).readF n = s.readF n := rfl

@[simp] theorem State.set_x_nfreg (s : State) (xs : List XVal) : ({ s with x := xs } : State).nfreg = s.nfreg := rfl

@[simp] theorem State.set_x_readFlag (s : State) (xs : List XVal) (k : Nat) : ({ s with x := xs } : State).readFlag k = s.readFlag k := rfl

@[simp] theorem State.set_x_nflags (s : State) (xs : List XVal) : ({ s with x := xs } : State).nflags = s.nflags := rfl

@[simp] theorem State.set_x_nextPC (s : State) (xs : List XVal) : ({ s with x := xs } : State).nextPC = s.nextPC := rfl

@[simp] theorem State.set_x_branchTarget (s : State) (xs : List XVal) (disp : BitVec 8) : ({ s with x := xs } : State).branchTarget disp = s.branchTarget disp := rfl

@[simp] theorem State.set_f_readX (s : State) (fs : List FVal) (n : Nat) : ({ s with f := fs } : State).readX n = s.readX n := rfl

@[simp] theorem State.set_f_readPair (s : State) (fs : List FVal) (n : Nat) : ({ s with f := fs } : State).readPair n = s.readPair n := rfl

@[simp] theorem State.set_f_nireg (s : State) (fs : List FVal) : ({ s with f := fs } : State).nireg = s.nireg := rfl

@[simp] theorem State.set_f_readFlag (s : State) (fs : List FVal) (k : Nat) : ({ s with f := fs } : State).readFlag k = s.readFlag k := rfl

@[simp] theorem State.set_f_nflags (s : State) (fs : List FVal) : ({ s with f := fs } : State).nflags = s.nflags := rfl

@[simp] theorem State.set_f_nextPC (s : State) (fs : List FVal) : ({ s with f := fs } : State).nextPC = s.nextPC := rfl

@[simp] theorem State.set_f_branchTarget (s : State) (fs : List FVal) (disp : BitVec 8) : ({ s with f := fs } : State).branchTarget disp = s.branchTarget disp := rfl

@[simp] theorem State.set_pf_readX (s : State) (p : List Bool) (n : Nat) : ({ s with pf := p } : State).readX n = s.readX n := rfl

@[simp] theorem State.set_pf_readPair (s : State) (p : List Bool) (n : Nat) : ({ s with pf := p } : State).readPair n = s.readPair n := rfl

@[simp] theorem State.set_pf_nireg (s : State) (p : List Bool) : ({ s with pf := p } : State).nireg = s.nireg := rfl

@[simp] theorem State.set_pf_readF (s : State) (p : List Bool) (n : Nat) : ({ s with pf := p } : State).readF n = s.readF n := rfl

@[simp] theorem State.set_pf_nfreg (s : State) (p : List Bool) : ({ s with pf := p } : State).nfreg = s.nfreg := rfl

@[simp] theorem State.set_pf_nextPC (s : State) (p : List Bool) : ({ s with pf := p } : State).nextPC = s.nextPC := rfl

@[simp] theorem State.set_pf_branchTarget (s : State) (p : List Bool) (disp : BitVec 8) : ({ s with pf := p } : State).branchTarget disp = s.branchTarget disp := rfl

@[simp] theorem State.set_mode_readX (s : State) (m : Mode) (n : Nat) : ({ s with mode := m } : State).readX n = s.readX n := rfl

@[simp] theorem State.set_mode_readPair (s : State) (m : Mode) (n : Nat) : ({ s with mode := m } : State).readPair n = s.readPair n := rfl

@[simp] theorem State.set_mode_nireg (s : State) (m : Mode) : ({ s with mode := m } : State).nireg = s.nireg := rfl

@[simp] theorem State.set_mode_readF (s : State) (m : Mode) (n : Nat) : ({ s with mode := m } : State).readF n = s.readF n := rfl

@[simp] theorem State.set_mode_nfreg (s : State) (m : Mode) : ({ s with mode := m } : State).nfreg = s.nfreg := rfl

@[simp] theorem State.set_mode_readFlag (s : State) (m : Mode) (k : Nat) : ({ s with mode := m } : State).readFlag k = s.readFlag k := rfl

@[simp] theorem State.set_mode_nflags (s : State) (m : Mode) : ({ s with mode := m } : State).nflags = s.nflags := rfl

@[simp] theorem State.set_mode_nextPC (s : State) (m : Mode) : ({ s with mode := m } : State).nextPC = s.nextPC := rfl

@[simp] theorem State.set_mode_branchTarget (s : State) (m : Mode) (disp : BitVec 8) : ({ s with mode := m } : State).branchTarget disp = s.branchTarget disp := rfl

@[simp] theorem State.set_x_word (s : State) (xs : List XVal) : ({ s with x := xs } : State).word = s.word := rfl

@[simp] theorem State.set_x_decodeWord (s : State) (xs : List XVal) (w : Word) : ({ s with x := xs } : State).decodeWord w = s.decodeWord w := rfl

@[simp] theorem State.set_f_word (s : State) (fs : List FVal) : ({ s with f := fs } : State).word = s.word := rfl

@[simp] theorem State.set_f_decodeWord (s : State) (fs : List FVal) (w : Word) : ({ s with f := fs } : State).decodeWord w = s.decodeWord w := rfl

@[simp] theorem State.set_pf_word (s : State) (p : List Bool) : ({ s with pf := p } : State).word = s.word := rfl

@[simp] theorem State.set_pf_decodeWord (s : State) (p : List Bool) (w : Word) : ({ s with pf := p } : State).decodeWord w = s.decodeWord w := rfl

@[simp] theorem State.set_mode_word (s : State) (m : Mode) : ({ s with mode := m } : State).word = s.word := rfl

@[simp] theorem State.set_mode_decodeWord (s : State) (m : Mode) (w : Word) : ({ s with mode := m } : State).decodeWord w = s.decodeWord w := rfl

@[simp] theorem State.writeX_word (s : State) (n : Nat) (v : XVal) : (s.writeX n v).word = s.word := rfl

@[simp] theorem State.writeF_word (s : State) (n : Nat) (v : FVal) : (s.writeF n v).word = s.word := rfl

@[simp] theorem State.writeFlag_word (s : State) (k : Nat) (b : Bool) : (s.writeFlag k b).word = s.word := rfl

@[simp] theorem State.writeCC_word (s : State) (cc : CC) : (s.writeCC cc).word = s.word := rfl

end Sys2Proof.Machine
end

