-- ==== Sys2Proof/Laws/Values.lean ====
section
/-! SUPPORT. The operand forms in the terms claims use: the low bits of a register as a mathematical value, and what a
result leaves in its register. -/

namespace Sys2Proof.Machine

/-- `u` of the low bits is the unsigned value the model computes with. -/
theorem uval_eq (n : Nat) (v : XVal) : uval n v = ((lo n v).toNat : Int) := by
  simp [uval, lo]

/-- `s` of the low bits is the signed value the model computes with. -/
theorem sval_eq {n : Nat} (hn : 0 < n) (v : XVal) : sval n v = (lo n v).toInt := by
  have hlt := (lo n v).isLt
  have hp : 2 ^ n = 2 * 2 ^ (n - 1) := by rw [← Nat.pow_succ']; congr 1; omega
  have hpi : (2 : Int) ^ n = 2 * 2 ^ (n - 1) := by exact_mod_cast hp
  have hc : ((2 ^ (n - 1) : Nat) : Int) = (2 : Int) ^ (n - 1) := by push_cast; rfl
  have hc' : ((2 ^ n : Nat) : Int) = (2 : Int) ^ n := by push_cast; rfl
  unfold sval
  rw [uval_eq, BitVec.toInt_eq_toNat_cond]
  split <;> split <;> omega

/-- The low bits of a register the extension has filled are the result. -/
theorem lo_extend {n : Nat} (hn : n ≤ 64) (e : Ext) (old : XVal) (r : BitVec n) : lo n (extend e old r) = r := by
  apply BitVec.eq_of_getLsbD_eq
  intro i hi
  cases e
  · simp only [lo, extend, BitVec.getLsbD_setWidth, BitVec.getLsbD_signExtend, hi, if_true, decide_true,
      Bool.true_and, show i < 64 by omega]
  · simp [lo, extend, hi, show i < 64 by omega]
  · simp [lo, extend, keepUpper, hi, show i < 64 by omega]

/-- The bits above the result are the ones the extension gives. -/
theorem upperBits_extend {n : Nat} (h0 : 0 < n) (hn : n ≤ 64) (e : Ext) (old : XVal) (r : BitVec n) :
    UpperBits e n old (extend e old r) := by
  intro i hi h64
  cases e
  · simp only [extend, BitVec.getLsbD_signExtend, h64, show ¬ i < n by omega, show n - 1 < 64 by omega,
      show n - 1 < n by omega, BitVec.msb_eq_getLsbD_last, if_true, if_false, decide_true, Bool.true_and]
  · have : r.getLsbD i = false := BitVec.getLsbD_of_ge _ _ hi
    simp [extend, this]
  · have : r.getLsbD i = false := BitVec.getLsbD_of_ge _ _ hi
    simp [extend, keepUpper, this, h64, show ¬ i < n by omega, show n + (i - n) = i by omega]

/-- A bit of the low part is the register's. -/
theorem getLsbD_of_lo {n i : Nat} (h : i < n) (v : XVal) : (lo n v).getLsbD i = v.getLsbD i := by
  simp [lo, h]

/-- Filling a 64-bit location fills the register. -/
theorem extend_long (e : Ext) (old : XVal) (r : BitVec 64) : extend e old r = r := by
  apply BitVec.eq_of_getLsbD_eq
  intro i hi
  have h := congrArg (fun v => v.getLsbD i) (lo_extend (le_refl 64) e old r)
  simpa [lo, hi] using h

/-- The two halves of a double-length value make it up. -/
theorem highHalf_append_lowHalf (p : BitVec 128) : highHalf p ++ lowHalf p = p := by
  apply BitVec.eq_of_getLsbD_eq
  intro i hi
  simp only [highHalf, lowHalf, BitVec.getLsbD_append, BitVec.getLsbD_extractLsb']
  split
  · simp [*]
  · have : 64 + (i - 64) = i := by omega
    simp [this, show i - 64 < 64 by omega]

end Sys2Proof.Machine
end

