-- ==== Sys2Proof/Laws/Ops.lean ====
section
/-! SUPPORT. One lemma per shared operation that says once everything it can do: when it answers a next state and which,
and when it stops and how. Proofs about an instruction cite these and do not unfold the operation. -/

namespace Sys2Proof.Machine

/-- What a shared operation can do: under `ok` it answers `t`, otherwise it stops in the fault `k`. -/
def Runs (ok : Prop) (t : State) (k : Fault) (o : Result) : Prop :=
  (ok → o = .next t) ∧ (¬ok → o = .fault k)

/-- From an operation's account: a next state is the one it gives, and its condition held. -/
theorem Runs.of_next {ok : Prop} {t u : State} {k : Fault} {o : Result} (h : Runs ok t k o) (hu : o = .next u) :
    ok ∧ u = t := by
  by_cases hk : ok
  · refine ⟨hk, ?_⟩
    have := (h.1 hk).symm.trans hu
    injection this with this
    exact this.symm
  · rw [h.2 hk] at hu
    cases hu

/-! ### The register checks -/

/-- The checks pass: the instruction goes on. -/
theorem checkRegs_pass {size : Nat} {regs : List Nat} {even : Bool} (h : (∀ r ∈ regs, r < size) ∧ even = true)
    (s : State) (k : Result) : checkRegs s size regs even k = k := by
  have : (regs.all fun n => decide (n < size)) && even := by simpa using h
  simp only [checkRegs, this, if_true]

/-- A check fails: the instruction stops and nothing is written. -/
theorem checkRegs_fail {size : Nat} {regs : List Nat} {even : Bool} (h : ¬((∀ r ∈ regs, r < size) ∧ even = true))
    (s : State) (k : Result) : checkRegs s size regs even k = .fault (.registerSpecification s.word) := by
  have : ((regs.all fun n => decide (n < size)) && even) = false := by
    rw [Bool.eq_false_iff]
    simpa using h
  simp [checkRegs, this, raise]

/-- What passes or fails one check of the registers. -/
theorem checkRegs_runs (s : State) (size : Nat) (regs : List Nat) (even : Bool) (t : State) :
    Runs ((∀ r ∈ regs, r < size) ∧ even = true) t (.registerSpecification s.word) (checkRegs s size regs even (.next t)) :=
  ⟨fun h => checkRegs_pass h s _, fun h => checkRegs_fail h s _⟩

/-- An answer other than the register fault comes from what stands after the checks. -/
theorem checkRegs_cases (s : State) (size : Nat) (regs : List Nat) (even : Bool) (k : Result) :
    ((∀ r ∈ regs, r < size) ∧ even = true ∧ checkRegs s size regs even k = k) ∨
      checkRegs s size regs even k = .fault (.registerSpecification s.word) := by
  by_cases h : (∀ r ∈ regs, r < size) ∧ even = true
  · exact .inl ⟨h.1, h.2, checkRegs_pass h s k⟩
  · exact .inr (checkRegs_fail h s k)

/-- Changing the next state commutes with the checks. -/
theorem mapNext_checkRegs (g : State → State) (s : State) (size : Nat) (regs : List Nat) (even : Bool) (k : Result) :
    mapNext g (checkRegs s size regs even k) = checkRegs s size regs even (mapNext g k) := by
  unfold checkRegs
  split <;> rfl

/-- Changing the next state commutes with a test. -/
theorem mapNext_ite (g : State → State) (p : Prop) [Decidable p] (a b : Result) :
    mapNext g (if p then a else b) = if p then mapNext g a else mapNext g b := by
  split <;> rfl

/-- The checks of a two-operand instruction: both registers in the file. -/
theorem checkTwo_runs (s : State) (size rd rs : Nat) (t : State) :
    Runs (rd < size ∧ rs < size) t (.registerSpecification s.word) (checkRegs s size [rd, rs] true (.next t)) := by
  have h := checkRegs_runs s size [rd, rs] true t
  simp only [List.mem_cons, List.not_mem_nil, or_false, forall_eq_or_imp, forall_eq, and_true] at h
  exact h

/-! ### Frames of the writes -/

/-- Writing one integer register and going on in sequence. -/
theorem OnlyX.one (s : State) (d : Nat) (v : XVal) : OnlyX [d] s (s.writeX d v).advance where
  nireg := by simp
  others j hj := by
    simp only [List.mem_singleton] at hj
    simpa using s.readX_writeX_of_ne v hj
  f := rfl
  cc := rfl
  pf := rfl
  mode := rfl
  text := rfl
  par := rfl
  draws := rfl
  pc := rfl

/-- Writing two integer registers and going on in sequence. -/
theorem OnlyX.two (s : State) (d r : Nat) (v u : XVal) : OnlyX [d, r] s ((s.writeX d v).writeX r u).advance where
  nireg := by simp
  others j hj := by
    simp only [List.mem_cons, List.not_mem_nil, or_false, not_or] at hj
    rw [State.advance_readX, State.readX_writeX_of_ne _ _ hj.2, State.readX_writeX_of_ne _ _ hj.1]
  f := rfl
  cc := rfl
  pf := rfl
  mode := rfl
  text := rfl
  par := rfl
  draws := rfl
  pc := rfl

/-- Writing three integer registers and going on in sequence. -/
theorem OnlyX.three (s : State) (d r e : Nat) (v u z : XVal) :
    OnlyX [d, r, e] s (((s.writeX d v).writeX r u).writeX e z).advance where
  nireg := by simp
  others j hj := by
    simp only [List.mem_cons, List.not_mem_nil, or_false, not_or] at hj
    rw [State.advance_readX, State.readX_writeX_of_ne _ _ hj.2.2, State.readX_writeX_of_ne _ _ hj.2.1,
      State.readX_writeX_of_ne _ _ hj.1]
  f := rfl
  cc := rfl
  pf := rfl
  mode := rfl
  text := rfl
  par := rfl
  draws := rfl
  pc := rfl

/-- Writing one floating-point register and going on in sequence. -/
theorem OnlyF.one (s : State) (d : Nat) (v : FVal) : OnlyF [d] s (s.writeF d v).advance where
  nfreg := by simp
  others j hj := by
    simp only [List.mem_singleton] at hj
    simpa using s.readF_writeF_of_ne v hj
  x := rfl
  cc := rfl
  pf := rfl
  mode := rfl
  text := rfl
  par := rfl
  draws := rfl
  pc := rfl

/-- Writing two floating-point registers and going on in sequence. -/
theorem OnlyF.two (s : State) (d r : Nat) (v u : FVal) : OnlyF [d, r] s ((s.writeF r u).writeF d v).advance where
  nfreg := by simp
  others j hj := by
    simp only [List.mem_cons, List.not_mem_nil, or_false, not_or] at hj
    rw [State.advance_readF, State.readF_writeF_of_ne _ _ hj.1, State.readF_writeF_of_ne _ _ hj.2]
  x := rfl
  cc := rfl
  pf := rfl
  mode := rfl
  text := rfl
  par := rfl
  draws := rfl
  pc := rfl

/-- Writing the condition codes and going on in sequence. -/
theorem OnlyCC.intro (s : State) (cc : CC) : OnlyCC s (s.writeCC cc).advance where
  x := rfl
  f := rfl
  pf := rfl
  mode := rfl
  text := rfl
  par := rfl
  pc := rfl

/-- Writing one flag and going on in sequence. -/
theorem OnlyFlag.intro (s : State) (k : Nat) (b : Bool) : OnlyFlag k s (s.writeFlag k b).advance where
  nflags := by simp
  others j hj := by simpa using s.readFlag_writeFlag_of_ne b hj
  x := rfl
  f := rfl
  cc := rfl
  mode := rfl
  text := rfl
  par := rfl
  draws := rfl
  pc := rfl

/-- A filled register holds the value and the upper bits the extension gives. -/
theorem Fills.of_extend {n : Nat} (h0 : 0 < n) (hn : n ≤ 64) {e : Ext} {d : Nat} {v : Int} {s t : State} {r : BitVec n}
    (ht : t.readX d = extend e (s.readX d) r) (hv : (r.toNat : Int) = v % 2 ^ n) : Fills e n d v s t := by
  refine ⟨?_, ?_⟩
  · rw [ht, uval_eq, lo_extend hn, hv]
  · rw [ht]
    exact upperBits_extend h0 hn e _ r

/-! ### The shared shapes of the meanings -/

/-- An integer operate instruction with one result: it runs when both registers are in the file. -/
theorem intResult_runs (n : Nat) (e : Ext) (f : BitVec n → BitVec n → BitVec n) (rd rs : Nat) (s : State) :
    Runs (rd < s.nireg ∧ rs < s.nireg)
      (s.writeX rd (extend e (s.readX rd) (f (lo n (s.readX rd)) (lo n (s.readX rs))))).advance
      (.registerSpecification s.word) (intResult n e f rd rs s) :=
  checkTwo_runs s s.nireg rd rs _

/-- SWAP runs when both registers are in the file. -/
theorem intSwap_runs (n : Nat) (rd rs : Nat) (s : State) :
    Runs (rd < s.nireg ∧ rs < s.nireg)
      ((s.writeX rd (extend (upperExt s.par.swUpper) (s.readX rd) (lo n (s.readX rs)))).writeX rs
        (extend (upperExt s.par.swUpper) (s.readX rs) (lo n (s.readX rd)))).advance
      (.registerSpecification s.word) (intSwap n rd rs s) :=
  checkTwo_runs s s.nireg rd rs _

/-- COMPARE runs when both registers are in the file. -/
theorem intCompare_runs (n : Nat) (rd rs : Nat) (s : State) :
    Runs (rd < s.nireg ∧ rs < s.nireg)
      (s.writeCC (compareCC s.draws (lo n (s.readX rd)) (lo n (s.readX rs)))).advance
      (.registerSpecification s.word) (intCompare n rd rs s) :=
  checkTwo_runs s s.nireg rd rs _

/-- MULTIPLY EXTENSIBLY of halfwords and integers runs when both registers are in the file. -/
theorem mulExtend_runs (n : Nat) (rd rs : Nat) (s : State) :
    Runs (rd < s.nireg ∧ rs < s.nireg)
      (s.writeX rd ((BitVec.ofInt (2 * n) ((lo n (s.readX rd)).toInt * (lo n (s.readX rs)).toInt)).signExtend 64)).advance
      (.registerSpecification s.word) (mulExtend n rd rs s) :=
  checkTwo_runs s s.nireg rd rs _

/-- MULTIPLY EXTENSIBLY LONG runs when its three registers are in the file and the destination is even. -/
theorem mulExtendLong_runs (rd rs : Nat) (s : State) :
    Runs ((rd < s.nireg ∧ rs < s.nireg ∧ rd + 1 < s.nireg) ∧ rd % 2 = 0)
      ((s.writeX rd (highHalf (BitVec.ofInt 128 ((s.readX rd).toInt * (s.readX rs).toInt)))).writeX (rd + 1)
        (lowHalf (BitVec.ofInt 128 ((s.readX rd).toInt * (s.readX rs).toInt)))).advance
      (.registerSpecification s.word) (mulExtendLong rd rs s) := by
  have h := checkRegs_runs s s.nireg [rd, rs, rd + 1] (rd % 2 == 0)
    ((s.writeX rd (highHalf (BitVec.ofInt 128 ((s.readX rd).toInt * (s.readX rs).toInt)))).writeX (rd + 1)
      (lowHalf (BitVec.ofInt 128 ((s.readX rd).toInt * (s.readX rs).toInt)))).advance
  simpa [mulExtendLong] using h

/-- A floating-point instruction with one result runs when both registers are in the file. -/
theorem floatResult_runs (f : FVal → FVal → FVal) (rd rs : Nat) (s : State) :
    Runs (rd < s.nfreg ∧ rs < s.nfreg) (s.writeF rd (f (s.readF rd) (s.readF rs))).advance
      (.registerSpecification s.word) (floatResult f rd rs s) :=
  checkTwo_runs s s.nfreg rd rs _

/-- Floating-point SWAP runs when both registers are in the file. -/
theorem floatSwapRegs_runs (t : FType) (rd rs : Nat) (s : State) :
    Runs (rd < s.nfreg ∧ rs < s.nfreg)
      ((s.writeF rs (floatSwap s.par t (s.readF rd) (s.readF rs)).2).writeF rd
        (floatSwap s.par t (s.readF rd) (s.readF rs)).1).advance
      (.registerSpecification s.word) (floatSwapRegs t rd rs s) :=
  checkTwo_runs s s.nfreg rd rs _

/-- Floating-point COMPARE runs when both registers are in the file. -/
theorem floatCompare_runs (t : FType) (rd rs : Nat) (s : State) :
    Runs (rd < s.nfreg ∧ rs < s.nfreg)
      (s.writeCC (floatCompareCC s.draws t (s.readF rd) (s.readF rs))).advance
      (.registerSpecification s.word) (floatCompare t rd rs s) :=
  checkTwo_runs s s.nfreg rd rs _

/-! ### Division -/

/-- What a division can do: `regs` and `zero` and `ovf` are its checks in order. -/
def RunsDivision (regs : Prop) (zero ovf : Prop) (t : State) (w : Word) (o : Result) : Prop :=
  (¬regs → o = .fault (.registerSpecification w)) ∧
  (regs → zero → o = .fault (.divideByZero w)) ∧
  (regs → ¬zero → ovf → o = .fault (.divideOverflow w)) ∧
  (regs → ¬zero → ¬ovf → o = .next t)

/-- A division's account: a next state is the one it gives, and its checks passed. -/
theorem RunsDivision.of_next {regs zero ovf : Prop} {t u : State} {w : Word} {o : Result}
    (h : RunsDivision regs zero ovf t w o) (hu : o = .next u) : regs ∧ ¬zero ∧ ¬ovf ∧ u = t := by
  by_cases hr : regs
  · by_cases hz : zero
    · rw [h.2.1 hr hz] at hu
      cases hu
    · by_cases ho : ovf
      · rw [h.2.2.1 hr hz ho] at hu
        cases hu
      · have := (h.2.2.2 hr hz ho).symm.trans hu
        injection this with this
        exact ⟨hr, hz, ho, this.symm⟩
  · rw [h.1 hr] at hu
    cases hu

/-- The checks of a division, one after another. -/
theorem runsDivision_of_checks (s : State) (size : Nat) (regs : List Nat) (even : Bool) (zero ovf : Prop)
    [Decidable zero] [Decidable ovf] (t : State) :
    RunsDivision ((∀ r ∈ regs, r < size) ∧ even = true) zero ovf t s.word
      (checkRegs s size regs even
        (if zero then raise (.divideByZero s.word) else if ovf then raise (.divideOverflow s.word) else .next t)) := by
  refine ⟨fun h => checkRegs_fail h s _, fun h hz => ?_, fun h hz ho => ?_, fun h hz ho => ?_⟩
  · rw [checkRegs_pass h, if_pos hz]
    rfl
  · rw [checkRegs_pass h, if_neg hz, if_pos ho]
    rfl
  · rw [checkRegs_pass h, if_neg hz, if_neg ho]

/-- The checks of an unsigned division: there is no overflow. -/
theorem runsDivision_of_checks_unsigned (s : State) (size : Nat) (regs : List Nat) (even : Bool) (zero : Prop)
    [Decidable zero] (t : State) :
    RunsDivision ((∀ r ∈ regs, r < size) ∧ even = true) zero False t s.word
      (checkRegs s size regs even (if zero then raise (.divideByZero s.word) else .next t)) := by
  refine ⟨fun h => checkRegs_fail h s _, fun h hz => ?_, fun _ _ ho => ho.elim, fun h hz _ => ?_⟩
  · rw [checkRegs_pass h, if_pos hz]
    rfl
  · rw [checkRegs_pass h, if_neg hz]

/-- DIVIDE: checks of the registers, the divisor and the quotient, then the quotient fills the destination. -/
theorem intDivide_runs (n : Nat) (rd rs : Nat) (s : State) :
    let ops := divOperands s.par.divOrder (lo n (s.readX rd)).toInt (lo n (s.readX rs)).toInt
    RunsDivision (rd < s.nireg ∧ rs < s.nireg) (ops.2 = 0) ((divmag ops.1 ops.2).1 = 2 ^ (n - 1))
      (s.writeX rd (extend s.par.narrowExt (s.readX rd) (BitVec.ofInt n (divmag ops.1 ops.2).1))).advance s.word
      (intDivide n rd rs s) := by
  intro ops
  have h := runsDivision_of_checks s s.nireg [rd, rs] true (ops.2 = 0) ((divmag ops.1 ops.2).1 = 2 ^ (n - 1))
    (s.writeX rd (extend s.par.narrowExt (s.readX rd) (BitVec.ofInt n (divmag ops.1 ops.2).1))).advance
  simp only [List.mem_cons, List.not_mem_nil, or_false, forall_eq_or_imp, forall_eq, and_true] at h
  exact h

/-- DIVIDE UNSIGNED: checks of the registers and the divisor, then the quotient fills the destination. -/
theorem intDivideUnsigned_runs (n : Nat) (rd rs : Nat) (s : State) :
    let ops := divOperands s.par.divOrder (lo n (s.readX rd)).toNat (lo n (s.readX rs)).toNat
    RunsDivision (rd < s.nireg ∧ rs < s.nireg) (ops.2 = 0) False
      (s.writeX rd (extend s.par.uext (s.readX rd) (BitVec.ofNat n (udiv ops.1 ops.2).1))).advance s.word
      (intDivideUnsigned n rd rs s) := by
  intro ops
  have h := runsDivision_of_checks_unsigned s s.nireg [rd, rs] true (ops.2 = 0)
    (s.writeX rd (extend s.par.uext (s.readX rd) (BitVec.ofNat n (udiv ops.1 ops.2).1))).advance
  simp only [List.mem_cons, List.not_mem_nil, or_false, forall_eq_or_imp, forall_eq, and_true] at h
  exact h

/-- DIVIDE EXTENSIBLY of halfwords and integers. -/
theorem divExtend_runs (n : Nat) (rd rs : Nat) (s : State) :
    let a := (lo (2 * n) (s.readX rd)).toInt
    let b := (lo n (s.readX rs)).toInt
    RunsDivision (rd < s.nireg ∧ rs < s.nireg ∧ rd + 1 < s.nireg) (b = 0) ((divmag a b).1 = 2 ^ (2 * n - 1))
      ((s.writeX rd ((BitVec.ofInt (2 * n) (divmag a b).1).signExtend 64)).writeX (rd + 1)
        ((BitVec.ofInt n (divmag a b).2).signExtend 64)).advance s.word (divExtend n rd rs s) := by
  intro a b
  have h := runsDivision_of_checks s s.nireg [rd, rs, rd + 1] true (b = 0) ((divmag a b).1 = 2 ^ (2 * n - 1))
    ((s.writeX rd ((BitVec.ofInt (2 * n) (divmag a b).1).signExtend 64)).writeX (rd + 1)
        ((BitVec.ofInt n (divmag a b).2).signExtend 64)).advance
  simp only [List.mem_cons, List.not_mem_nil, or_false, forall_eq_or_imp, forall_eq, and_true] at h
  exact h

/-- DIVIDE EXTENSIBLY UNSIGNED of halfwords and integers. -/
theorem divExtendUnsigned_runs (n : Nat) (rd rs : Nat) (s : State) :
    let a := (lo (2 * n) (s.readX rd)).toNat
    let b := (lo n (s.readX rs)).toNat
    RunsDivision (rd < s.nireg ∧ rs < s.nireg ∧ rd + 1 < s.nireg) (b = 0) False
      ((s.writeX rd (extend s.par.uext (s.readX rd) (BitVec.ofNat (2 * n) (udiv a b).1))).writeX (rd + 1)
        (extend s.par.uext (s.readX (rd + 1)) (BitVec.ofNat n (udiv a b).2))).advance s.word
      (divExtendUnsigned n rd rs s) := by
  intro a b
  have h := runsDivision_of_checks_unsigned s s.nireg [rd, rs, rd + 1] true (b = 0)
    ((s.writeX rd (extend s.par.uext (s.readX rd) (BitVec.ofNat (2 * n) (udiv a b).1))).writeX (rd + 1)
        (extend s.par.uext (s.readX (rd + 1)) (BitVec.ofNat n (udiv a b).2))).advance
  simp only [List.mem_cons, List.not_mem_nil, or_false, forall_eq_or_imp, forall_eq, and_true] at h
  exact h

/-- DIVIDE EXTENSIBLY LONG. -/
theorem divExtendLong_runs (rd rs : Nat) (s : State) :
    let a := (s.readPair rd).toInt
    let b := (s.readX rs).toInt
    RunsDivision ((rd < s.nireg ∧ rs < s.nireg ∧ rd + 1 < s.nireg ∧ rd + 2 < s.nireg) ∧ rd % 2 = 0) (b = 0)
      ((divmag a b).1 = 2 ^ 127)
      (((s.writeX rd (highHalf (BitVec.ofInt 128 (divmag a b).1))).writeX (rd + 1)
        (lowHalf (BitVec.ofInt 128 (divmag a b).1))).writeX (rd + 2) (BitVec.ofInt 64 (divmag a b).2)).advance s.word
      (divExtendLong rd rs s) := by
  intro a b
  have h := runsDivision_of_checks s s.nireg [rd, rs, rd + 1, rd + 2] (rd % 2 == 0) (b = 0)
    ((divmag a b).1 = 2 ^ 127)
    (((s.writeX rd (highHalf (BitVec.ofInt 128 (divmag a b).1))).writeX (rd + 1)
        (lowHalf (BitVec.ofInt 128 (divmag a b).1))).writeX (rd + 2) (BitVec.ofInt 64 (divmag a b).2)).advance
  simp only [List.mem_cons, List.not_mem_nil, or_false, forall_eq_or_imp, forall_eq, beq_iff_eq] at h
  exact h

/-- DIVIDE EXTENSIBLY UNSIGNED LONG. -/
theorem divExtendUnsignedLong_runs (rd rs : Nat) (s : State) :
    let a := (s.readPair rd).toNat
    let b := (s.readX rs).toNat
    RunsDivision ((rd < s.nireg ∧ rs < s.nireg ∧ rd + 1 < s.nireg ∧ rd + 2 < s.nireg) ∧ rd % 2 = 0) (b = 0) False
      (((s.writeX rd (highHalf (BitVec.ofNat 128 (udiv a b).1))).writeX (rd + 1)
        (lowHalf (BitVec.ofNat 128 (udiv a b).1))).writeX (rd + 2) (BitVec.ofNat 64 (udiv a b).2)).advance s.word
      (divExtendUnsignedLong rd rs s) := by
  intro a b
  have h := runsDivision_of_checks_unsigned s s.nireg [rd, rs, rd + 1, rd + 2] (rd % 2 == 0) (b = 0)
    (((s.writeX rd (highHalf (BitVec.ofNat 128 (udiv a b).1))).writeX (rd + 1)
        (lowHalf (BitVec.ofNat 128 (udiv a b).1))).writeX (rd + 2) (BitVec.ofNat 64 (udiv a b).2)).advance
  simp only [List.mem_cons, List.not_mem_nil, or_false, forall_eq_or_imp, forall_eq, beq_iff_eq] at h
  exact h

/-! ### Shifts, branches, flags, the fetch -/

/-- A shift or rotate: a count at or above the width is reserved, then the register is checked, then it runs. -/
theorem shiftReg_runs (n : Nat) (f : BitVec n → Nat → BitVec n) (reg cnt : Nat) (s : State) :
    (n ≤ cnt → shiftReg n f reg cnt s = .fault (.reservedInstruction s.word)) ∧
      (cnt < n → Runs (reg < s.nireg)
        (s.writeX reg (extend s.par.narrowExt (s.readX reg) (f (lo n (s.readX reg)) cnt))).advance
        (.registerSpecification s.word) (shiftReg n f reg cnt s)) := by
  refine ⟨fun h => ?_, fun h => ?_⟩
  · simp [shiftReg, h, raise]
  · have := checkRegs_runs s s.nireg [reg] true
      (s.writeX reg (extend s.par.narrowExt (s.readX reg) (f (lo n (s.readX reg)) cnt))).advance
    simp only [List.mem_singleton, forall_eq, and_true] at this
    simpa [shiftReg, Nat.not_le.2 h] using this

/-- A branch always goes on: to its target if the condition holds, in sequence if not. -/
theorem branchOn_cases (cn : BitVec 5) (disp : BitVec 8) (s : State) :
    (holds cn s.cc = true ∧ branchOn cn disp s = .next (s.jump disp)) ∨
      (holds cn s.cc = false ∧ branchOn cn disp s = .next s.advance) := by
  cases h : holds cn s.cc <;> simp [branchOn, h]

/-- A flag instruction runs when its condition number is listed and the machine has the flag. -/
theorem flagOn_runs (f : Bool → Bool → Bool) (k : Nat) (q : BitVec 5) (s : State) :
    Runs (listedCond q = true ∧ k < s.nflags) (s.writeFlag k (f (holds q s.cc) (s.readFlag k))).advance
      (.reservedInstruction s.word) (flagOn f k q s) := by
  refine ⟨fun h => ?_, fun h => ?_⟩
  · simp [flagOn, h.1, h.2]
  · rw [flagOn, if_neg]
    · rfl
    · simpa using h

/-- The fetch gives a word exactly when a container stands at the address and has the slot. -/
theorem State.fetch_ok {s : State} {w : Word} :
    s.fetch = .ok w ↔ ∃ c, s.text.lookup s.pc.ca = some c ∧ c.words[s.pc.slot]? = some w := by
  unfold State.fetch
  cases h : s.text.lookup s.pc.ca with
  | none => simp
  | some c => cases h' : c.words[s.pc.slot]? <;> simp [h']

/-- Where the fetch gives a word, it is the one an outcome records. -/
theorem State.word_of_fetch {s : State} {w : Word} (h : s.fetch = .ok w) : s.word = w := by
  simp [State.word, h]

/-- With no departures listed, a table describes the reference layouts. -/
theorem Layouts.ofTable_nil : Layouts.ofTable { operate := [], shift := [], flag := [], svc := [] } = Layouts.ref :=
  rfl

/-- A machine at the reference layouts decodes by them. -/
theorem State.decodeWord_ref {s : State} (h : s.par.layouts = refParams.layouts) (w : Word) : s.decodeWord w = decode w := by
  rw [State.decodeWord, h]
  exact congrArg (decodeWith · w) Layouts.ofTable_nil

/-- Everything a step can do. -/
theorem step_cases (s : State) :
    (∃ r, s.fetch = .error r ∧ step s = .refused r) ∨
    (∃ w, s.fetch = .ok w ∧ s.decodeWord w = none ∧ step s = .fault (.reservedInstruction w)) ∨
    (∃ w i, s.fetch = .ok w ∧ s.decodeWord w = some i ∧ step s = exec i s) := by
  unfold step
  cases h : s.fetch with
  | error r => exact .inl ⟨r, rfl, rfl⟩
  | ok w =>
    cases h' : s.decodeWord w with
    | none => exact .inr (.inl ⟨w, rfl, h', by simp [h', raise]⟩)
    | some i => exact .inr (.inr ⟨w, i, rfl, h', by simp [h']⟩)

end Sys2Proof.Machine
end

