-- ==== Sys2Proof/Laws/PerInstr.lean ====
section
/-! SUPPORT. Per-instruction families: one statement about an instruction as syntax and one lemma per constructor. The
family `RowBits`: the word of a well-formed instruction has the fixed bits of its row of spec/opcode_table.json. -/

namespace Sys2Proof.Laws

/-- The fixed bits of an operate word (30_encoding.md R73). -/
theorem operateWord_fixed (opcode rd rs : Nat) :
    operateWord opcode rd rs &&& 0o774037#18 = BitVec.ofNat 7 opcode ++ 0#3 ++ 0#3 ++ 0#5 := by
  have hm : 0o774037#18 = BitVec.allOnes 7 ++ 0#3 ++ 0#3 ++ 0b11111#5 := rfl
  rw [operateWord, hm]
  rw [BitVec.and_append, BitVec.and_append, BitVec.and_append, BitVec.and_allOnes, BitVec.and_zero, BitVec.and_zero]
  rfl

/-- The fixed bits of a word of the branch space (30_encoding.md R84 to R86). -/
theorem branchWord_fixed (cv : Nat) (low : BitVec 8) :
    branchWord cv low &&& 0o777400#18 = 0b1110#4 ++ BitVec.ofNat 6 cv ++ 0#8 := by
  have hm : 0o777400#18 = BitVec.allOnes 4 ++ BitVec.allOnes 6 ++ 0#8 := rfl
  rw [branchWord, hm, BitVec.and_append, BitVec.and_append, BitVec.and_allOnes, BitVec.and_allOnes, BitVec.and_zero]

/-- The fixed bits of a Byte shift word (30_encoding.md R81, R83). -/
theorem shiftByteWord_fixed (r kind n : Nat) :
    shiftByteWord r kind n &&& 0o777700#18 = 0o67#6 ++ 0#4 ++ BitVec.ofNat 2 kind ++ 0#3 ++ 0#3 := by
  have hm : 0o777700#18 = BitVec.allOnes 6 ++ BitVec.allOnes 4 ++ BitVec.allOnes 2 ++ 0#3 ++ 0#3 := rfl
  rw [shiftByteWord, hm, BitVec.and_append, BitVec.and_append, BitVec.and_append, BitVec.and_append,
    BitVec.and_allOnes, BitVec.and_allOnes, BitVec.and_allOnes, BitVec.and_zero, BitVec.and_zero]

/-- The fixed bits of the other shift words: `m` holds the bits above the count, which are 0 (30_encoding.md R81, R83). -/
theorem shiftWord_fixed (pre r kind n : Nat) (m : BitVec 6) (h : BitVec.ofNat 6 n &&& m = 0#6) :
    shiftWord pre r kind n &&& (0o770#9 ++ 1#1 ++ 0b11#2 ++ m) =
      BitVec.ofNat 6 pre ++ 0#3 ++ 0#1 ++ BitVec.ofNat 2 kind ++ 0#6 := by
  have hm : 0o770#9 ++ 1#1 ++ 0b11#2 ++ m = BitVec.allOnes 6 ++ 0#3 ++ BitVec.allOnes 1 ++ BitVec.allOnes 2 ++ m := rfl
  rw [shiftWord, hm, BitVec.and_append, BitVec.and_append, BitVec.and_append, BitVec.and_append,
    BitVec.and_allOnes, BitVec.and_allOnes, BitVec.and_allOnes, BitVec.and_zero, h]

/-- A count below 32 leaves the top bit of its six clear. -/
theorem count_int (n : Nat) (h : n < 32) : BitVec.ofNat 6 n &&& 0o40#6 = 0#6 := by
  interval_cases n <;> rfl

/-- A count below 16 leaves the top two bits of its six clear. -/
theorem count_half (n : Nat) (h : n < 16) : BitVec.ofNat 6 n &&& 0o60#6 = 0#6 := by
  interval_cases n <;> rfl

/-- The count of a well-formed shift is below its size's number of counts. -/
theorem Form.count_lt {size : ShSize} {reg cnt : Nat} (h : (Form.shift size reg cnt).wellFormed = true) :
    cnt < size.counts := by
  simp only [Form.wellFormed, Bool.and_eq_true, decide_eq_true_eq] at h
  exact h.2

/-- `match` and `mask` of each instruction's row in spec/opcode_table.json. -/
def RowBits.row : Instr → Word × Word
  | .cb _ _ => (0o004000, 0o774037)
  | .lb _ _ => (0o010000, 0o774037)
  | .stb _ _ => (0o014000, 0o774037)
  | .ab _ _ => (0o020000, 0o774037)
  | .sb _ _ => (0o024000, 0o774037)
  | .mb _ _ => (0o030000, 0o774037)
  | .db _ _ => (0o034000, 0o774037)
  | .ib _ _ => (0o040000, 0o774037)
  | .xb _ _ => (0o044000, 0o774037)
  | .ulb _ _ => (0o050000, 0o774037)
  | .dub _ _ => (0o054000, 0o774037)
  | .nb _ _ => (0o060000, 0o774037)
  | .ob _ _ => (0o064000, 0o774037)
  | .swb _ _ => (0o070000, 0o774037)
  | .swh _ _ => (0o074000, 0o774037)
  | .deuh _ _ => (0o100000, 0o774037)
  | .ch _ _ => (0o104000, 0o774037)
  | .lh _ _ => (0o110000, 0o774037)
  | .sth _ _ => (0o114000, 0o774037)
  | .ah _ _ => (0o120000, 0o774037)
  | .sh _ _ => (0o124000, 0o774037)
  | .mh _ _ => (0o130000, 0o774037)
  | .dh _ _ => (0o134000, 0o774037)
  | .ih _ _ => (0o140000, 0o774037)
  | .xh _ _ => (0o144000, 0o774037)
  | .ulh _ _ => (0o150000, 0o774037)
  | .duh _ _ => (0o154000, 0o774037)
  | .nh _ _ => (0o160000, 0o774037)
  | .oh _ _ => (0o164000, 0o774037)
  | .meh _ _ => (0o170000, 0o774037)
  | .deh _ _ => (0o174000, 0o774037)
  | .deu _ _ => (0o200000, 0o774037)
  | .c _ _ => (0o204000, 0o774037)
  | .l _ _ => (0o210000, 0o774037)
  | .st _ _ => (0o214000, 0o774037)
  | .a _ _ => (0o220000, 0o774037)
  | .s _ _ => (0o224000, 0o774037)
  | .m _ _ => (0o230000, 0o774037)
  | .d _ _ => (0o234000, 0o774037)
  | .i _ _ => (0o240000, 0o774037)
  | .x _ _ => (0o244000, 0o774037)
  | .ul _ _ => (0o250000, 0o774037)
  | .du _ _ => (0o254000, 0o774037)
  | .n _ _ => (0o260000, 0o774037)
  | .o _ _ => (0o264000, 0o774037)
  | .me _ _ => (0o270000, 0o774037)
  | .de _ _ => (0o274000, 0o774037)
  | .deul _ _ => (0o300000, 0o774037)
  | .cl _ _ => (0o304000, 0o774037)
  | .ll _ _ => (0o310000, 0o774037)
  | .stl _ _ => (0o314000, 0o774037)
  | .al _ _ => (0o320000, 0o774037)
  | .sl _ _ => (0o324000, 0o774037)
  | .ml _ _ => (0o330000, 0o774037)
  | .dl _ _ => (0o334000, 0o774037)
  | .sw _ _ => (0o340000, 0o774037)
  | .xl _ _ => (0o344000, 0o774037)
  | .swl _ _ => (0o350000, 0o774037)
  | .dul _ _ => (0o354000, 0o774037)
  | .nl _ _ => (0o360000, 0o774037)
  | .ol _ _ => (0o364000, 0o774037)
  | .mel _ _ => (0o370000, 0o774037)
  | .del _ _ => (0o374000, 0o774037)
  | .swm _ _ => (0o400000, 0o774037)
  | .cm _ _ => (0o404000, 0o774037)
  | .lm _ _ => (0o410000, 0o774037)
  | .stm _ _ => (0o414000, 0o774037)
  | .am _ _ => (0o420000, 0o774037)
  | .sm _ _ => (0o424000, 0o774037)
  | .mm _ _ => (0o430000, 0o774037)
  | .dm _ _ => (0o434000, 0o774037)
  | .swf _ _ => (0o440000, 0o774037)
  | .cf _ _ => (0o444000, 0o774037)
  | .lf _ _ => (0o450000, 0o774037)
  | .stf _ _ => (0o454000, 0o774037)
  | .af _ _ => (0o460000, 0o774037)
  | .sf _ _ => (0o464000, 0o774037)
  | .mf _ _ => (0o470000, 0o774037)
  | .df _ _ => (0o474000, 0o774037)
  | .swd _ _ => (0o500000, 0o774037)
  | .cd _ _ => (0o504000, 0o774037)
  | .ld _ _ => (0o510000, 0o774037)
  | .std _ _ => (0o514000, 0o774037)
  | .ad _ _ => (0o520000, 0o774037)
  | .sd _ _ => (0o524000, 0o774037)
  | .md _ _ => (0o530000, 0o774037)
  | .dd _ _ => (0o534000, 0o774037)
  | .swq _ _ => (0o540000, 0o774037)
  | .cq _ _ => (0o544000, 0o774037)
  | .lq _ _ => (0o550000, 0o774037)
  | .stq _ _ => (0o554000, 0o774037)
  | .aq _ _ => (0o560000, 0o774037)
  | .sq _ _ => (0o564000, 0o774037)
  | .mq _ _ => (0o570000, 0o774037)
  | .dq _ _ => (0o574000, 0o774037)
  | .lsllc _ _ => (0o600000, 0o770700)
  | .lsrlc _ _ => (0o600100, 0o770700)
  | .rllc _ _ => (0o600200, 0o770700)
  | .asrlc _ _ => (0o600300, 0o770700)
  | .lslc _ _ => (0o640000, 0o770740)
  | .lsrc _ _ => (0o640100, 0o770740)
  | .rlc _ _ => (0o640200, 0o770740)
  | .asrc _ _ => (0o640300, 0o770740)
  | .lslhc _ _ => (0o660000, 0o770760)
  | .lsrhc _ _ => (0o660100, 0o770760)
  | .rlhc _ _ => (0o660200, 0o770760)
  | .asrhc _ _ => (0o660300, 0o770760)
  | .lslbc _ _ => (0o670000, 0o777700)
  | .lsrbc _ _ => (0o670100, 0o777700)
  | .rlbc _ _ => (0o670200, 0o777700)
  | .asrbc _ _ => (0o670300, 0o777700)
  | .nop _ => (0o700000, 0o777400)
  | .blr _ => (0o700400, 0o777400)
  | .ber _ => (0o701000, 0o777400)
  | .bler _ => (0o701400, 0o777400)
  | .bhr _ => (0o702000, 0o777400)
  | .bner _ => (0o702400, 0o777400)
  | .bher _ => (0o703000, 0o777400)
  | .b _ => (0o703400, 0o777400)
  | .bm _ => (0o704400, 0o777400)
  | .bz _ => (0o705000, 0o777400)
  | .bmz _ => (0o705400, 0o777400)
  | .bp _ => (0o706000, 0o777400)
  | .bnz _ => (0o706400, 0o777400)
  | .bpz _ => (0o707000, 0o777400)
  | .bnv _ => (0o707400, 0o777400)
  | .bl _ => (0o710400, 0o777400)
  | .be _ => (0o711000, 0o777400)
  | .ble _ => (0o711400, 0o777400)
  | .bh _ => (0o712000, 0o777400)
  | .bne _ => (0o712400, 0o777400)
  | .bhe _ => (0o713000, 0o777400)
  | .bnc _ => (0o713400, 0o777400)
  | .bc _ => (0o714000, 0o777400)
  | .bv _ => (0o714400, 0o777400)
  | .sfc _ _ => (0o721000, 0o777400)
  | .cfc _ _ => (0o721400, 0o777400)
  | .ctf _ _ => (0o722000, 0o777400)
  | .svc _ => (0o737000, 0o777400)

/-- The word of a well-formed instruction agrees with its row of the table on every bit the row fixes. -/
def RowBits.Statement (i : Instr) : Prop :=
  i.wellFormed = true → encode i &&& (RowBits.row i).2 = (RowBits.row i).1

theorem RowBits.cb (rd rs : Nat) : RowBits.Statement (.cb rd rs) :=
  fun _ => operateWord_fixed _ _ _

theorem RowBits.lb (rd rs : Nat) : RowBits.Statement (.lb rd rs) :=
  fun _ => operateWord_fixed _ _ _

theorem RowBits.stb (rd rs : Nat) : RowBits.Statement (.stb rd rs) :=
  fun _ => operateWord_fixed _ _ _

theorem RowBits.ab (rd rs : Nat) : RowBits.Statement (.ab rd rs) :=
  fun _ => operateWord_fixed _ _ _

theorem RowBits.sb (rd rs : Nat) : RowBits.Statement (.sb rd rs) :=
  fun _ => operateWord_fixed _ _ _

theorem RowBits.mb (rd rs : Nat) : RowBits.Statement (.mb rd rs) :=
  fun _ => operateWord_fixed _ _ _

theorem RowBits.db (rd rs : Nat) : RowBits.Statement (.db rd rs) :=
  fun _ => operateWord_fixed _ _ _

theorem RowBits.ib (rd rs : Nat) : RowBits.Statement (.ib rd rs) :=
  fun _ => operateWord_fixed _ _ _

theorem RowBits.xb (rd rs : Nat) : RowBits.Statement (.xb rd rs) :=
  fun _ => operateWord_fixed _ _ _

theorem RowBits.ulb (rd rs : Nat) : RowBits.Statement (.ulb rd rs) :=
  fun _ => operateWord_fixed _ _ _

theorem RowBits.dub (rd rs : Nat) : RowBits.Statement (.dub rd rs) :=
  fun _ => operateWord_fixed _ _ _

theorem RowBits.nb (rd rs : Nat) : RowBits.Statement (.nb rd rs) :=
  fun _ => operateWord_fixed _ _ _

theorem RowBits.ob (rd rs : Nat) : RowBits.Statement (.ob rd rs) :=
  fun _ => operateWord_fixed _ _ _

theorem RowBits.swb (rd rs : Nat) : RowBits.Statement (.swb rd rs) :=
  fun _ => operateWord_fixed _ _ _

theorem RowBits.swh (rd rs : Nat) : RowBits.Statement (.swh rd rs) :=
  fun _ => operateWord_fixed _ _ _

theorem RowBits.deuh (rd rs : Nat) : RowBits.Statement (.deuh rd rs) :=
  fun _ => operateWord_fixed _ _ _

theorem RowBits.ch (rd rs : Nat) : RowBits.Statement (.ch rd rs) :=
  fun _ => operateWord_fixed _ _ _

theorem RowBits.lh (rd rs : Nat) : RowBits.Statement (.lh rd rs) :=
  fun _ => operateWord_fixed _ _ _

theorem RowBits.sth (rd rs : Nat) : RowBits.Statement (.sth rd rs) :=
  fun _ => operateWord_fixed _ _ _

theorem RowBits.ah (rd rs : Nat) : RowBits.Statement (.ah rd rs) :=
  fun _ => operateWord_fixed _ _ _

theorem RowBits.sh (rd rs : Nat) : RowBits.Statement (.sh rd rs) :=
  fun _ => operateWord_fixed _ _ _

theorem RowBits.mh (rd rs : Nat) : RowBits.Statement (.mh rd rs) :=
  fun _ => operateWord_fixed _ _ _

theorem RowBits.dh (rd rs : Nat) : RowBits.Statement (.dh rd rs) :=
  fun _ => operateWord_fixed _ _ _

theorem RowBits.ih (rd rs : Nat) : RowBits.Statement (.ih rd rs) :=
  fun _ => operateWord_fixed _ _ _

theorem RowBits.xh (rd rs : Nat) : RowBits.Statement (.xh rd rs) :=
  fun _ => operateWord_fixed _ _ _

theorem RowBits.ulh (rd rs : Nat) : RowBits.Statement (.ulh rd rs) :=
  fun _ => operateWord_fixed _ _ _

theorem RowBits.duh (rd rs : Nat) : RowBits.Statement (.duh rd rs) :=
  fun _ => operateWord_fixed _ _ _

theorem RowBits.nh (rd rs : Nat) : RowBits.Statement (.nh rd rs) :=
  fun _ => operateWord_fixed _ _ _

theorem RowBits.oh (rd rs : Nat) : RowBits.Statement (.oh rd rs) :=
  fun _ => operateWord_fixed _ _ _

theorem RowBits.meh (rd rs : Nat) : RowBits.Statement (.meh rd rs) :=
  fun _ => operateWord_fixed _ _ _

theorem RowBits.deh (rd rs : Nat) : RowBits.Statement (.deh rd rs) :=
  fun _ => operateWord_fixed _ _ _

theorem RowBits.deu (rd rs : Nat) : RowBits.Statement (.deu rd rs) :=
  fun _ => operateWord_fixed _ _ _

theorem RowBits.c (rd rs : Nat) : RowBits.Statement (.c rd rs) :=
  fun _ => operateWord_fixed _ _ _

theorem RowBits.l (rd rs : Nat) : RowBits.Statement (.l rd rs) :=
  fun _ => operateWord_fixed _ _ _

theorem RowBits.st (rd rs : Nat) : RowBits.Statement (.st rd rs) :=
  fun _ => operateWord_fixed _ _ _

theorem RowBits.a (rd rs : Nat) : RowBits.Statement (.a rd rs) :=
  fun _ => operateWord_fixed _ _ _

theorem RowBits.s (rd rs : Nat) : RowBits.Statement (.s rd rs) :=
  fun _ => operateWord_fixed _ _ _

theorem RowBits.m (rd rs : Nat) : RowBits.Statement (.m rd rs) :=
  fun _ => operateWord_fixed _ _ _

theorem RowBits.d (rd rs : Nat) : RowBits.Statement (.d rd rs) :=
  fun _ => operateWord_fixed _ _ _

theorem RowBits.i (rd rs : Nat) : RowBits.Statement (.i rd rs) :=
  fun _ => operateWord_fixed _ _ _

theorem RowBits.x (rd rs : Nat) : RowBits.Statement (.x rd rs) :=
  fun _ => operateWord_fixed _ _ _

theorem RowBits.ul (rd rs : Nat) : RowBits.Statement (.ul rd rs) :=
  fun _ => operateWord_fixed _ _ _

theorem RowBits.du (rd rs : Nat) : RowBits.Statement (.du rd rs) :=
  fun _ => operateWord_fixed _ _ _

theorem RowBits.n (rd rs : Nat) : RowBits.Statement (.n rd rs) :=
  fun _ => operateWord_fixed _ _ _

theorem RowBits.o (rd rs : Nat) : RowBits.Statement (.o rd rs) :=
  fun _ => operateWord_fixed _ _ _

theorem RowBits.me (rd rs : Nat) : RowBits.Statement (.me rd rs) :=
  fun _ => operateWord_fixed _ _ _

theorem RowBits.de (rd rs : Nat) : RowBits.Statement (.de rd rs) :=
  fun _ => operateWord_fixed _ _ _

theorem RowBits.deul (rd rs : Nat) : RowBits.Statement (.deul rd rs) :=
  fun _ => operateWord_fixed _ _ _

theorem RowBits.cl (rd rs : Nat) : RowBits.Statement (.cl rd rs) :=
  fun _ => operateWord_fixed _ _ _

theorem RowBits.ll (rd rs : Nat) : RowBits.Statement (.ll rd rs) :=
  fun _ => operateWord_fixed _ _ _

theorem RowBits.stl (rd rs : Nat) : RowBits.Statement (.stl rd rs) :=
  fun _ => operateWord_fixed _ _ _

theorem RowBits.al (rd rs : Nat) : RowBits.Statement (.al rd rs) :=
  fun _ => operateWord_fixed _ _ _

theorem RowBits.sl (rd rs : Nat) : RowBits.Statement (.sl rd rs) :=
  fun _ => operateWord_fixed _ _ _

theorem RowBits.ml (rd rs : Nat) : RowBits.Statement (.ml rd rs) :=
  fun _ => operateWord_fixed _ _ _

theorem RowBits.dl (rd rs : Nat) : RowBits.Statement (.dl rd rs) :=
  fun _ => operateWord_fixed _ _ _

theorem RowBits.sw (rd rs : Nat) : RowBits.Statement (.sw rd rs) :=
  fun _ => operateWord_fixed _ _ _

theorem RowBits.xl (rd rs : Nat) : RowBits.Statement (.xl rd rs) :=
  fun _ => operateWord_fixed _ _ _

theorem RowBits.swl (rd rs : Nat) : RowBits.Statement (.swl rd rs) :=
  fun _ => operateWord_fixed _ _ _

theorem RowBits.dul (rd rs : Nat) : RowBits.Statement (.dul rd rs) :=
  fun _ => operateWord_fixed _ _ _

theorem RowBits.nl (rd rs : Nat) : RowBits.Statement (.nl rd rs) :=
  fun _ => operateWord_fixed _ _ _

theorem RowBits.ol (rd rs : Nat) : RowBits.Statement (.ol rd rs) :=
  fun _ => operateWord_fixed _ _ _

theorem RowBits.mel (rd rs : Nat) : RowBits.Statement (.mel rd rs) :=
  fun _ => operateWord_fixed _ _ _

theorem RowBits.del (rd rs : Nat) : RowBits.Statement (.del rd rs) :=
  fun _ => operateWord_fixed _ _ _

theorem RowBits.swm (rd rs : Nat) : RowBits.Statement (.swm rd rs) :=
  fun _ => operateWord_fixed _ _ _

theorem RowBits.cm (rd rs : Nat) : RowBits.Statement (.cm rd rs) :=
  fun _ => operateWord_fixed _ _ _

theorem RowBits.lm (rd rs : Nat) : RowBits.Statement (.lm rd rs) :=
  fun _ => operateWord_fixed _ _ _

theorem RowBits.stm (rd rs : Nat) : RowBits.Statement (.stm rd rs) :=
  fun _ => operateWord_fixed _ _ _

theorem RowBits.am (rd rs : Nat) : RowBits.Statement (.am rd rs) :=
  fun _ => operateWord_fixed _ _ _

theorem RowBits.sm (rd rs : Nat) : RowBits.Statement (.sm rd rs) :=
  fun _ => operateWord_fixed _ _ _

theorem RowBits.mm (rd rs : Nat) : RowBits.Statement (.mm rd rs) :=
  fun _ => operateWord_fixed _ _ _

theorem RowBits.dm (rd rs : Nat) : RowBits.Statement (.dm rd rs) :=
  fun _ => operateWord_fixed _ _ _

theorem RowBits.swf (rd rs : Nat) : RowBits.Statement (.swf rd rs) :=
  fun _ => operateWord_fixed _ _ _

theorem RowBits.cf (rd rs : Nat) : RowBits.Statement (.cf rd rs) :=
  fun _ => operateWord_fixed _ _ _

theorem RowBits.lf (rd rs : Nat) : RowBits.Statement (.lf rd rs) :=
  fun _ => operateWord_fixed _ _ _

theorem RowBits.stf (rd rs : Nat) : RowBits.Statement (.stf rd rs) :=
  fun _ => operateWord_fixed _ _ _

theorem RowBits.af (rd rs : Nat) : RowBits.Statement (.af rd rs) :=
  fun _ => operateWord_fixed _ _ _

theorem RowBits.sf (rd rs : Nat) : RowBits.Statement (.sf rd rs) :=
  fun _ => operateWord_fixed _ _ _

theorem RowBits.mf (rd rs : Nat) : RowBits.Statement (.mf rd rs) :=
  fun _ => operateWord_fixed _ _ _

theorem RowBits.df (rd rs : Nat) : RowBits.Statement (.df rd rs) :=
  fun _ => operateWord_fixed _ _ _

theorem RowBits.swd (rd rs : Nat) : RowBits.Statement (.swd rd rs) :=
  fun _ => operateWord_fixed _ _ _

theorem RowBits.cd (rd rs : Nat) : RowBits.Statement (.cd rd rs) :=
  fun _ => operateWord_fixed _ _ _

theorem RowBits.ld (rd rs : Nat) : RowBits.Statement (.ld rd rs) :=
  fun _ => operateWord_fixed _ _ _

theorem RowBits.std (rd rs : Nat) : RowBits.Statement (.std rd rs) :=
  fun _ => operateWord_fixed _ _ _

theorem RowBits.ad (rd rs : Nat) : RowBits.Statement (.ad rd rs) :=
  fun _ => operateWord_fixed _ _ _

theorem RowBits.sd (rd rs : Nat) : RowBits.Statement (.sd rd rs) :=
  fun _ => operateWord_fixed _ _ _

theorem RowBits.md (rd rs : Nat) : RowBits.Statement (.md rd rs) :=
  fun _ => operateWord_fixed _ _ _

theorem RowBits.dd (rd rs : Nat) : RowBits.Statement (.dd rd rs) :=
  fun _ => operateWord_fixed _ _ _

theorem RowBits.swq (rd rs : Nat) : RowBits.Statement (.swq rd rs) :=
  fun _ => operateWord_fixed _ _ _

theorem RowBits.cq (rd rs : Nat) : RowBits.Statement (.cq rd rs) :=
  fun _ => operateWord_fixed _ _ _

theorem RowBits.lq (rd rs : Nat) : RowBits.Statement (.lq rd rs) :=
  fun _ => operateWord_fixed _ _ _

theorem RowBits.stq (rd rs : Nat) : RowBits.Statement (.stq rd rs) :=
  fun _ => operateWord_fixed _ _ _

theorem RowBits.aq (rd rs : Nat) : RowBits.Statement (.aq rd rs) :=
  fun _ => operateWord_fixed _ _ _

theorem RowBits.sq (rd rs : Nat) : RowBits.Statement (.sq rd rs) :=
  fun _ => operateWord_fixed _ _ _

theorem RowBits.mq (rd rs : Nat) : RowBits.Statement (.mq rd rs) :=
  fun _ => operateWord_fixed _ _ _

theorem RowBits.dq (rd rs : Nat) : RowBits.Statement (.dq rd rs) :=
  fun _ => operateWord_fixed _ _ _

theorem RowBits.lsllc (reg cnt : Nat) : RowBits.Statement (.lsllc reg cnt) :=
  fun _ => shiftWord_fixed _ _ _ _ 0#6 BitVec.and_zero

theorem RowBits.lsrlc (reg cnt : Nat) : RowBits.Statement (.lsrlc reg cnt) :=
  fun _ => shiftWord_fixed _ _ _ _ 0#6 BitVec.and_zero

theorem RowBits.rllc (reg cnt : Nat) : RowBits.Statement (.rllc reg cnt) :=
  fun _ => shiftWord_fixed _ _ _ _ 0#6 BitVec.and_zero

theorem RowBits.asrlc (reg cnt : Nat) : RowBits.Statement (.asrlc reg cnt) :=
  fun _ => shiftWord_fixed _ _ _ _ 0#6 BitVec.and_zero

theorem RowBits.lslc (reg cnt : Nat) : RowBits.Statement (.lslc reg cnt) :=
  fun h => shiftWord_fixed _ _ _ _ 0o40#6 (count_int _ (Form.count_lt h))

theorem RowBits.lsrc (reg cnt : Nat) : RowBits.Statement (.lsrc reg cnt) :=
  fun h => shiftWord_fixed _ _ _ _ 0o40#6 (count_int _ (Form.count_lt h))

theorem RowBits.rlc (reg cnt : Nat) : RowBits.Statement (.rlc reg cnt) :=
  fun h => shiftWord_fixed _ _ _ _ 0o40#6 (count_int _ (Form.count_lt h))

theorem RowBits.asrc (reg cnt : Nat) : RowBits.Statement (.asrc reg cnt) :=
  fun h => shiftWord_fixed _ _ _ _ 0o40#6 (count_int _ (Form.count_lt h))

theorem RowBits.lslhc (reg cnt : Nat) : RowBits.Statement (.lslhc reg cnt) :=
  fun h => shiftWord_fixed _ _ _ _ 0o60#6 (count_half _ (Form.count_lt h))

theorem RowBits.lsrhc (reg cnt : Nat) : RowBits.Statement (.lsrhc reg cnt) :=
  fun h => shiftWord_fixed _ _ _ _ 0o60#6 (count_half _ (Form.count_lt h))

theorem RowBits.rlhc (reg cnt : Nat) : RowBits.Statement (.rlhc reg cnt) :=
  fun h => shiftWord_fixed _ _ _ _ 0o60#6 (count_half _ (Form.count_lt h))

theorem RowBits.asrhc (reg cnt : Nat) : RowBits.Statement (.asrhc reg cnt) :=
  fun h => shiftWord_fixed _ _ _ _ 0o60#6 (count_half _ (Form.count_lt h))

theorem RowBits.lslbc (reg cnt : Nat) : RowBits.Statement (.lslbc reg cnt) :=
  fun _ => shiftByteWord_fixed _ _ _

theorem RowBits.lsrbc (reg cnt : Nat) : RowBits.Statement (.lsrbc reg cnt) :=
  fun _ => shiftByteWord_fixed _ _ _

theorem RowBits.rlbc (reg cnt : Nat) : RowBits.Statement (.rlbc reg cnt) :=
  fun _ => shiftByteWord_fixed _ _ _

theorem RowBits.asrbc (reg cnt : Nat) : RowBits.Statement (.asrbc reg cnt) :=
  fun _ => shiftByteWord_fixed _ _ _

theorem RowBits.nop (disp : BitVec 8) : RowBits.Statement (.nop disp) :=
  fun _ => branchWord_fixed _ _

theorem RowBits.blr (disp : BitVec 8) : RowBits.Statement (.blr disp) :=
  fun _ => branchWord_fixed _ _

theorem RowBits.ber (disp : BitVec 8) : RowBits.Statement (.ber disp) :=
  fun _ => branchWord_fixed _ _

theorem RowBits.bler (disp : BitVec 8) : RowBits.Statement (.bler disp) :=
  fun _ => branchWord_fixed _ _

theorem RowBits.bhr (disp : BitVec 8) : RowBits.Statement (.bhr disp) :=
  fun _ => branchWord_fixed _ _

theorem RowBits.bner (disp : BitVec 8) : RowBits.Statement (.bner disp) :=
  fun _ => branchWord_fixed _ _

theorem RowBits.bher (disp : BitVec 8) : RowBits.Statement (.bher disp) :=
  fun _ => branchWord_fixed _ _

theorem RowBits.b (disp : BitVec 8) : RowBits.Statement (.b disp) :=
  fun _ => branchWord_fixed _ _

theorem RowBits.bm (disp : BitVec 8) : RowBits.Statement (.bm disp) :=
  fun _ => branchWord_fixed _ _

theorem RowBits.bz (disp : BitVec 8) : RowBits.Statement (.bz disp) :=
  fun _ => branchWord_fixed _ _

theorem RowBits.bmz (disp : BitVec 8) : RowBits.Statement (.bmz disp) :=
  fun _ => branchWord_fixed _ _

theorem RowBits.bp (disp : BitVec 8) : RowBits.Statement (.bp disp) :=
  fun _ => branchWord_fixed _ _

theorem RowBits.bnz (disp : BitVec 8) : RowBits.Statement (.bnz disp) :=
  fun _ => branchWord_fixed _ _

theorem RowBits.bpz (disp : BitVec 8) : RowBits.Statement (.bpz disp) :=
  fun _ => branchWord_fixed _ _

theorem RowBits.bnv (disp : BitVec 8) : RowBits.Statement (.bnv disp) :=
  fun _ => branchWord_fixed _ _

theorem RowBits.bl (disp : BitVec 8) : RowBits.Statement (.bl disp) :=
  fun _ => branchWord_fixed _ _

theorem RowBits.be (disp : BitVec 8) : RowBits.Statement (.be disp) :=
  fun _ => branchWord_fixed _ _

theorem RowBits.ble (disp : BitVec 8) : RowBits.Statement (.ble disp) :=
  fun _ => branchWord_fixed _ _

theorem RowBits.bh (disp : BitVec 8) : RowBits.Statement (.bh disp) :=
  fun _ => branchWord_fixed _ _

theorem RowBits.bne (disp : BitVec 8) : RowBits.Statement (.bne disp) :=
  fun _ => branchWord_fixed _ _

theorem RowBits.bhe (disp : BitVec 8) : RowBits.Statement (.bhe disp) :=
  fun _ => branchWord_fixed _ _

theorem RowBits.bnc (disp : BitVec 8) : RowBits.Statement (.bnc disp) :=
  fun _ => branchWord_fixed _ _

theorem RowBits.bc (disp : BitVec 8) : RowBits.Statement (.bc disp) :=
  fun _ => branchWord_fixed _ _

theorem RowBits.bv (disp : BitVec 8) : RowBits.Statement (.bv disp) :=
  fun _ => branchWord_fixed _ _

theorem RowBits.sfc (k : Nat) (q : BitVec 5) : RowBits.Statement (.sfc k q) :=
  fun _ => branchWord_fixed _ _

theorem RowBits.cfc (k : Nat) (q : BitVec 5) : RowBits.Statement (.cfc k q) :=
  fun _ => branchWord_fixed _ _

theorem RowBits.ctf (k : Nat) (q : BitVec 5) : RowBits.Statement (.ctf k q) :=
  fun _ => branchWord_fixed _ _

theorem RowBits.svc (code : BitVec 8) : RowBits.Statement (.svc code) :=
  fun _ => branchWord_fixed _ _

end Sys2Proof.Laws
end

