-- ==== Sys2Proof/Tests/Slice0.lean ====
section
/-! SUPPORT. The author's tests: ill-formed operands refused, every constructor decoded from a word written out from the
spec's encoding, single steps with the results the spec works out (95_test_vectors.md, and the examples inside the rules),
and for every obligation with hypotheses a state and operands that meet them. -/

open Sys2Proof Sys2Proof.Machine

namespace Sys2Proof.Tests

set_option maxRecDepth 20000

/-! ### Helpers -/

/-- The state after reset with some integer registers set. -/
def start (l : List (Nat × XVal)) : State :=
  l.foldl (fun s p => s.writeX p.1 p.2) State.reset

/-- One step of `s` with the word placed where it is fetched. -/
def run (w : Nat) (s : State) : Result :=
  step (s.withFetchWord 18 w)

/-- The next state, if there is one. -/
def nextOf : Result → Option State
  | .next t => some t
  | _ => none

/-- The fault, if there is one. -/
def faultOf : Result → Option Fault
  | .fault k => some k
  | _ => none

/-- One integer register after one step. -/
def xAfter (w : Nat) (l : List (Nat × XVal)) (r : Nat) : Option XVal :=
  (nextOf (run w (start l))).map (State.readX · r)

/-- The fields of `cc` an integer COMPARE determines, after one step. -/
def ccAfter (w : Nat) (l : List (Nat × XVal)) : Option (Mzp × Leh × Bool) :=
  (nextOf (run w (start l))).map fun t => (t.cc.sgn, t.cc.uns, t.cc.v)

/-- The fault of one step. -/
def faultAfter (w : Nat) (l : List (Nat × XVal)) : Option Fault :=
  faultOf (run w (start l))

/-- The state after reset with one container at `ca`, the program counter at its slot 0. -/
def at_ (ca len : Nat) (words : List Word) : State :=
  { State.reset with text := [(ca, { len := len, words := words })], pc := { ca := ca, slot := 0 } }

/-- The program counter after one step. -/
def pcAfter (s : State) : Option PC :=
  (nextOf (step s)).map State.pc

/-- One flag after one step, from a state with the condition codes `cc` and that flag at `b`. -/
def flagAfter (w : Nat) (cc : CC) (k : Nat) (b : Bool) : Option Bool :=
  (nextOf (run w { State.reset.writeFlag k b with cc := cc })).map (State.readFlag · k)

/-! ### Well-formedness -/

theorem test_wf_registers : (Instr.a 8 0).wellFormed = false ∧ (Instr.a 0 8).wellFormed = false ∧
    (Instr.aq 8 0).wellFormed = false ∧ (Instr.aq 0 8).wellFormed = false ∧ (Instr.lslc 8 0).wellFormed = false ∧
    (Instr.a 7 7).wellFormed = true := by decide

theorem test_wf_counts : (Instr.lsllc 0 64).wellFormed = false ∧ (Instr.lslc 0 32).wellFormed = false ∧
    (Instr.lslhc 0 16).wellFormed = false ∧ (Instr.lslbc 0 8).wellFormed = false ∧
    (Instr.lsllc 0 63).wellFormed = true := by decide

theorem test_wf_flags : (Instr.sfc 8 7#5).wellFormed = false ∧ (Instr.cfc 0 8#5).wellFormed = false ∧
    (Instr.ctf 0 16#5).wellFormed = false ∧ (Instr.ctf 0 26#5).wellFormed = false ∧
    (Instr.sfc 0 31#5).wellFormed = false ∧ (Instr.sfc 7 25#5).wellFormed = true := by decide

/-! ### Decoding: each word is the table's encoding with the operand letters filled in -/

theorem test_decode_operate_column_0000 :
    decode 0b000000100111000000#18 = some (.cb 1 6) ∧
    decode 0b000001011000100000#18 = some (.lb 6 1) ∧
    decode 0b000001101110000000#18 = some (.stb 3 4) ∧
    decode 0b000010000011100000#18 = some (.ab 0 7) ∧
    decode 0b000010110101000000#18 = some (.sb 5 2) ∧
    decode 0b000011001010100000#18 = some (.mb 2 5) ∧
    decode 0b000011111100000000#18 = some (.db 7 0) := by decide

theorem test_decode_operate_column_0001 :
    decode 0b000100010001100000#18 = some (.ib 4 3) ∧
    decode 0b000100100111000000#18 = some (.xb 1 6) ∧
    decode 0b000101011000100000#18 = some (.ulb 6 1) ∧
    decode 0b000101101110000000#18 = some (.dub 3 4) ∧
    decode 0b000110000011100000#18 = some (.nb 0 7) ∧
    decode 0b000110110101000000#18 = some (.ob 5 2) ∧
    decode 0b000111001010100000#18 = some (.swb 2 5) ∧
    decode 0b000111111100000000#18 = some (.swh 7 0) := by decide

theorem test_decode_operate_column_0010 :
    decode 0b001000010001100000#18 = some (.deuh 4 3) ∧
    decode 0b001000100111000000#18 = some (.ch 1 6) ∧
    decode 0b001001011000100000#18 = some (.lh 6 1) ∧
    decode 0b001001101110000000#18 = some (.sth 3 4) ∧
    decode 0b001010000011100000#18 = some (.ah 0 7) ∧
    decode 0b001010110101000000#18 = some (.sh 5 2) ∧
    decode 0b001011001010100000#18 = some (.mh 2 5) ∧
    decode 0b001011111100000000#18 = some (.dh 7 0) := by decide

theorem test_decode_operate_column_0011 :
    decode 0b001100010001100000#18 = some (.ih 4 3) ∧
    decode 0b001100100111000000#18 = some (.xh 1 6) ∧
    decode 0b001101011000100000#18 = some (.ulh 6 1) ∧
    decode 0b001101101110000000#18 = some (.duh 3 4) ∧
    decode 0b001110000011100000#18 = some (.nh 0 7) ∧
    decode 0b001110110101000000#18 = some (.oh 5 2) ∧
    decode 0b001111001010100000#18 = some (.meh 2 5) ∧
    decode 0b001111111100000000#18 = some (.deh 7 0) := by decide

theorem test_decode_operate_column_0100 :
    decode 0b010000010001100000#18 = some (.deu 4 3) ∧
    decode 0b010000100111000000#18 = some (.c 1 6) ∧
    decode 0b010001011000100000#18 = some (.l 6 1) ∧
    decode 0b010001101110000000#18 = some (.st 3 4) ∧
    decode 0b010010000011100000#18 = some (.a 0 7) ∧
    decode 0b010010110101000000#18 = some (.s 5 2) ∧
    decode 0b010011001010100000#18 = some (.m 2 5) ∧
    decode 0b010011111100000000#18 = some (.d 7 0) := by decide

theorem test_decode_operate_column_0101 :
    decode 0b010100010001100000#18 = some (.i 4 3) ∧
    decode 0b010100100111000000#18 = some (.x 1 6) ∧
    decode 0b010101011000100000#18 = some (.ul 6 1) ∧
    decode 0b010101101110000000#18 = some (.du 3 4) ∧
    decode 0b010110000011100000#18 = some (.n 0 7) ∧
    decode 0b010110110101000000#18 = some (.o 5 2) ∧
    decode 0b010111001010100000#18 = some (.me 2 5) ∧
    decode 0b010111111100000000#18 = some (.de 7 0) := by decide

theorem test_decode_operate_column_0110 :
    decode 0b011000010001100000#18 = some (.deul 4 3) ∧
    decode 0b011000100111000000#18 = some (.cl 1 6) ∧
    decode 0b011001011000100000#18 = some (.ll 6 1) ∧
    decode 0b011001101110000000#18 = some (.stl 3 4) ∧
    decode 0b011010000011100000#18 = some (.al 0 7) ∧
    decode 0b011010110101000000#18 = some (.sl 5 2) ∧
    decode 0b011011001010100000#18 = some (.ml 2 5) ∧
    decode 0b011011111100000000#18 = some (.dl 7 0) := by decide

theorem test_decode_operate_column_0111 :
    decode 0b011100010001100000#18 = some (.sw 4 3) ∧
    decode 0b011100100111000000#18 = some (.xl 1 6) ∧
    decode 0b011101011000100000#18 = some (.swl 6 1) ∧
    decode 0b011101101110000000#18 = some (.dul 3 4) ∧
    decode 0b011110000011100000#18 = some (.nl 0 7) ∧
    decode 0b011110110101000000#18 = some (.ol 5 2) ∧
    decode 0b011111001010100000#18 = some (.mel 2 5) ∧
    decode 0b011111111100000000#18 = some (.del 7 0) := by decide

theorem test_decode_operate_column_1000 :
    decode 0b100000010001100000#18 = some (.swm 4 3) ∧
    decode 0b100000100111000000#18 = some (.cm 1 6) ∧
    decode 0b100001011000100000#18 = some (.lm 6 1) ∧
    decode 0b100001101110000000#18 = some (.stm 3 4) ∧
    decode 0b100010000011100000#18 = some (.am 0 7) ∧
    decode 0b100010110101000000#18 = some (.sm 5 2) ∧
    decode 0b100011001010100000#18 = some (.mm 2 5) ∧
    decode 0b100011111100000000#18 = some (.dm 7 0) := by decide

theorem test_decode_operate_column_1001 :
    decode 0b100100010001100000#18 = some (.swf 4 3) ∧
    decode 0b100100100111000000#18 = some (.cf 1 6) ∧
    decode 0b100101011000100000#18 = some (.lf 6 1) ∧
    decode 0b100101101110000000#18 = some (.stf 3 4) ∧
    decode 0b100110000011100000#18 = some (.af 0 7) ∧
    decode 0b100110110101000000#18 = some (.sf 5 2) ∧
    decode 0b100111001010100000#18 = some (.mf 2 5) ∧
    decode 0b100111111100000000#18 = some (.df 7 0) := by decide

theorem test_decode_operate_column_1010 :
    decode 0b101000010001100000#18 = some (.swd 4 3) ∧
    decode 0b101000100111000000#18 = some (.cd 1 6) ∧
    decode 0b101001011000100000#18 = some (.ld 6 1) ∧
    decode 0b101001101110000000#18 = some (.std 3 4) ∧
    decode 0b101010000011100000#18 = some (.ad 0 7) ∧
    decode 0b101010110101000000#18 = some (.sd 5 2) ∧
    decode 0b101011001010100000#18 = some (.md 2 5) ∧
    decode 0b101011111100000000#18 = some (.dd 7 0) := by decide

theorem test_decode_operate_column_1011 :
    decode 0b101100010001100000#18 = some (.swq 4 3) ∧
    decode 0b101100100111000000#18 = some (.cq 1 6) ∧
    decode 0b101101011000100000#18 = some (.lq 6 1) ∧
    decode 0b101101101110000000#18 = some (.stq 3 4) ∧
    decode 0b101110000011100000#18 = some (.aq 0 7) ∧
    decode 0b101110110101000000#18 = some (.sq 5 2) ∧
    decode 0b101111001010100000#18 = some (.mq 2 5) ∧
    decode 0b101111111100000000#18 = some (.dq 7 0) := by decide

theorem test_decode_shifts :
    decode 0b110000101000000111#18 = some (.lsllc 5 7) ∧
    decode 0b110000010001001000#18 = some (.lsrlc 2 8) ∧
    decode 0b110000111010001001#18 = some (.rllc 7 9) ∧
    decode 0b110000100011001010#18 = some (.asrlc 4 10) ∧
    decode 0b110100001000010111#18 = some (.lslc 1 23) ∧
    decode 0b110100110001011000#18 = some (.lsrc 6 24) ∧
    decode 0b110100011010011001#18 = some (.rlc 3 25) ∧
    decode 0b110100000011011010#18 = some (.asrc 0 26) ∧
    decode 0b110110101000000001#18 = some (.lslhc 5 1) ∧
    decode 0b110110010001000010#18 = some (.lsrhc 2 2) ∧
    decode 0b110110111010000011#18 = some (.rlhc 7 3) ∧
    decode 0b110110100011000100#18 = some (.asrhc 4 4) ∧
    decode 0b110111000000001000#18 = some (.lslbc 1 0) ∧
    decode 0b110111000001110001#18 = some (.lsrbc 6 1) ∧
    decode 0b110111000010011010#18 = some (.rlbc 3 2) ∧
    decode 0b110111000011000011#18 = some (.asrbc 0 3) := by decide

theorem test_decode_branches :
    decode 0b111000000010011111#18 = some (.nop 0b10011111#8) ∧
    decode 0b111000000110100110#18 = some (.blr 0b10100110#8) ∧
    decode 0b111000001010101101#18 = some (.ber 0b10101101#8) ∧
    decode 0b111000001110110100#18 = some (.bler 0b10110100#8) ∧
    decode 0b111000010010111011#18 = some (.bhr 0b10111011#8) ∧
    decode 0b111000010111000010#18 = some (.bner 0b11000010#8) ∧
    decode 0b111000011011001001#18 = some (.bher 0b11001001#8) ∧
    decode 0b111000011111010000#18 = some (.b 0b11010000#8) ∧
    decode 0b111000100111010111#18 = some (.bm 0b11010111#8) ∧
    decode 0b111000101011011110#18 = some (.bz 0b11011110#8) ∧
    decode 0b111000101111100101#18 = some (.bmz 0b11100101#8) ∧
    decode 0b111000110011101100#18 = some (.bp 0b11101100#8) ∧
    decode 0b111000110111110011#18 = some (.bnz 0b11110011#8) ∧
    decode 0b111000111011111010#18 = some (.bpz 0b11111010#8) ∧
    decode 0b111000111100000001#18 = some (.bnv 0b00000001#8) ∧
    decode 0b111001000100001000#18 = some (.bl 0b00001000#8) ∧
    decode 0b111001001000001111#18 = some (.be 0b00001111#8) ∧
    decode 0b111001001100010110#18 = some (.ble 0b00010110#8) ∧
    decode 0b111001010000011101#18 = some (.bh 0b00011101#8) ∧
    decode 0b111001010100100100#18 = some (.bne 0b00100100#8) ∧
    decode 0b111001011000101011#18 = some (.bhe 0b00101011#8) ∧
    decode 0b111001011100110010#18 = some (.bnc 0b00110010#8) ∧
    decode 0b111001100000111001#18 = some (.bc 0b00111001#8) ∧
    decode 0b111001100101000000#18 = some (.bv 0b01000000#8) := by decide

theorem test_decode_flags_and_svc :
    decode 0b111010001010101010#18 = some (.sfc 5 10#5) ∧
    decode 0b111010001100011001#18 = some (.cfc 0 25#5) ∧
    decode 0b111010010001101110#18 = some (.ctf 3 14#5) ∧
    decode 0b111011111000101010#18 = some (.svc 0b00101010#8) := by decide

/-- The reserved words of 95_test_vectors.md section 2.1. -/
theorem test_decode_reserved :
    decode 0o000000#18 = none ∧
    decode 0o003777#18 = none ∧
    decode 0o220501#18 = none ∧
    decode 0o577777#18 = none ∧
    decode 0o610000#18 = none ∧
    decode 0o620000#18 = none ∧
    decode 0o630000#18 = none ∧
    decode 0o650000#18 = none ∧
    decode 0o603401#18 = none ∧
    decode 0o643041#18 = none ∧
    decode 0o663021#18 = none ∧
    decode 0o671031#18 = none ∧
    decode 0o704000#18 = none ∧
    decode 0o710000#18 = none ∧
    decode 0o715000#18 = none ∧
    decode 0o720400#18 = none ∧
    decode 0o722400#18 = none ∧
    decode 0o736400#18 = none ∧
    decode 0o737400#18 = none ∧
    decode 0o722074#18 = none ∧
    decode 0o721010#18 = none ∧
    decode 0o721560#18 = none ∧
    decode 0o721377#18 = none ∧
    decode 0o740000#18 = none ∧
    decode 0o777777#18 = none := by decide

/-- The host's numbering: bit 0 is the least significant bit of the one 18-bit word. -/
theorem test_decodeTableWord : decodeTableWord 24 0o220500 = some (.a 1 2) ∧ decodeTableWord 24 0x40000 = none := by decide

/-! ### Single steps: 95_test_vectors.md sections 2.2 and 2.4 (reference parameters) -/

theorem test_step_add_subtract :
    xAfter 0o020500 [(1, 0x7F), (2, 0x1)] 1 = some 0xFFFFFFFFFFFFFF80 ∧
    xAfter 0o020500 [(1, 0xFF), (2, 0x1)] 1 = some 0x0 ∧
    xAfter 0o120500 [(1, 0xDEADBEEF00000001), (2, 0x123456789ABC0002)] 1 = some 0x3 ∧
    xAfter 0o221540 [(3, 0x40000000)] 3 = some 0xFFFFFFFF80000000 ∧
    xAfter 0o320500 [(1, 0xFFFFFFFFFFFFFFFF), (2, 0x1)] 1 = some 0x0 ∧
    xAfter 0o024500 [(1, 0x0), (2, 0x1)] 1 = some 0xFFFFFFFFFFFFFFFF ∧
    xAfter 0o124500 [(1, 0x8000), (2, 0x1)] 1 = some 0x7FFF ∧
    xAfter 0o224500 [(1, 0x80000000), (2, 0x1)] 1 = some 0x7FFFFFFF ∧
    xAfter 0o324500 [(1, 0x5), (2, 0x7)] 1 = some 0xFFFFFFFFFFFFFFFE := by decide

theorem test_step_multiply :
    xAfter 0o030500 [(1, 0xB), (2, 0xC)] 1 = some 0xFFFFFFFFFFFFFF84 ∧
    xAfter 0o130500 [(1, 0xFFFE), (2, 0x3)] 1 = some 0xFFFFFFFFFFFFFFFA ∧
    xAfter 0o230500 [(1, 0x10000), (2, 0x10000)] 1 = some 0x0 ∧
    xAfter 0o330500 [(1, 0xFFFFFFFFFFFFFFFF), (2, 0xFFFFFFFFFFFFFFFF)] 1 = some 0x1 := by decide

theorem test_step_divide :
    xAfter 0o034500 [(1, 0xFD), (2, 0xF9)] 1 = some 0x2 ∧
    xAfter 0o134500 [(1, 0x2), (2, 0xFFF9)] 1 = some 0xFFFFFFFFFFFFFFFD ∧
    xAfter 0o234500 [(1, 0xFFFFFFFE), (2, 0x7)] 1 = some 0xFFFFFFFFFFFFFFFD ∧
    xAfter 0o334500 [(1, 0x3), (2, 0x8000000000000000)] 1 = some 0xD555555555555556 := by decide

theorem test_step_divide_unsigned :
    xAfter 0o054500 [(1, 0x1), (2, 0xC8)] 1 = some 0xFFFFFFFFFFFFFFC8 ∧
    xAfter 0o154500 [(1, 0x10), (2, 0xFFFF)] 1 = some 0xFFF ∧
    xAfter 0o254500 [(1, 0x2), (2, 0xFFFFFFFF)] 1 = some 0x7FFFFFFF ∧
    xAfter 0o354500 [(1, 0x2), (2, 0xFFFFFFFFFFFFFFFF)] 1 = some 0x7FFFFFFFFFFFFFFF := by decide

theorem test_step_moves :
    xAfter 0o010500 [(1, 0x1111111111111111), (2, 0x80)] 1 = some 0xFFFFFFFFFFFFFF80 ∧
    xAfter 0o010500 [(1, 0x1111111111111111), (2, 0x17F)] 1 = some 0x7F ∧
    xAfter 0o111540 [(3, 0x12348000)] 3 = some 0xFFFFFFFFFFFF8000 ∧
    xAfter 0o210500 [(1, 0x0), (2, 0xFFFFFFFF7FFFFFFF)] 1 = some 0x7FFFFFFF ∧
    xAfter 0o310500 [(1, 0x0), (2, 0x8000000000000001)] 1 = some 0x8000000000000001 ∧
    xAfter 0o050500 [(1, 0x1111111111111111), (2, 0x1FF)] 1 = some 0xFF ∧
    xAfter 0o150500 [(1, 0xFFFFFFFFFFFFFFFF), (2, 0x8000)] 1 = some 0x8000 ∧
    xAfter 0o250500 [(1, 0xFFFFFFFFFFFFFFFF), (2, 0xFFFFFFFF80000000)] 1 = some 0x80000000 ∧
    xAfter 0o040500 [(1, 0x1111111111111111), (2, 0xAB)] 1 = some 0x11111111111111AB ∧
    xAfter 0o140500 [(1, 0x1111111111111111), (2, 0xFFFFFFFFFFFF8000)] 1 = some 0x1111111111118000 ∧
    xAfter 0o240500 [(1, 0x1111111111111111), (2, 0xDEADBEEF)] 1 = some 0x11111111DEADBEEF ∧
    xAfter 0o014500 [(1, 0x1111111111111111), (2, 0xAB)] 1 = some 0x11111111111111AB ∧
    xAfter 0o114500 [(1, 0x1111111111111111), (2, 0x7FFF)] 1 = some 0x1111111111117FFF ∧
    xAfter 0o214500 [(1, 0x1111111111111111), (2, 0xDEADBEEF)] 1 = some 0x11111111DEADBEEF ∧
    xAfter 0o314500 [(1, 0x1111111111111111), (2, 0xDEADBEEF)] 1 = some 0xDEADBEEF := by decide

theorem test_step_swap :
    xAfter 0o070500 [(1, 0x11111111111111AA), (2, 0x22222222222222BB)] 1 = some 0x11111111111111BB ∧
    xAfter 0o070500 [(1, 0x11111111111111AA), (2, 0x22222222222222BB)] 2 = some 0x22222222222222AA ∧
    xAfter 0o074500 [(1, 0x111111111111AAAA), (2, 0x222222222222BBBB)] 1 = some 0x111111111111BBBB ∧
    xAfter 0o074500 [(1, 0x111111111111AAAA), (2, 0x222222222222BBBB)] 2 = some 0x222222222222AAAA ∧
    xAfter 0o340500 [(1, 0x11111111AAAAAAAA), (2, 0x22222222BBBBBBBB)] 1 = some 0x11111111BBBBBBBB ∧
    xAfter 0o340500 [(1, 0x11111111AAAAAAAA), (2, 0x22222222BBBBBBBB)] 2 = some 0x22222222AAAAAAAA ∧
    xAfter 0o350500 [(1, 0x11111111AAAAAAAA), (2, 0x22222222BBBBBBBB)] 1 = some 0x22222222BBBBBBBB ∧
    xAfter 0o350500 [(1, 0x11111111AAAAAAAA), (2, 0x22222222BBBBBBBB)] 2 = some 0x11111111AAAAAAAA := by decide

theorem test_step_compare :
    ccAfter 0o004500 [(1, 0x80), (2, 0x7F)] = some (.minus, .high, false) ∧
    ccAfter 0o004500 [(1, 0x7F), (2, 0x80)] = some (.plus, .low, false) ∧
    ccAfter 0o104500 [(1, 0xFFFF000000000005), (2, 0xFFFFFFFF0005)] = some (.zero, .equal, false) ∧
    ccAfter 0o204500 [(1, 0x1), (2, 0x2)] = some (.minus, .low, false) ∧
    ccAfter 0o204500 [(1, 0xFFFFFFFF), (2, 0x0)] = some (.minus, .high, false) ∧
    ccAfter 0o304500 [(1, 0x8000000000000000), (2, 0x7FFFFFFFFFFFFFFF)] = some (.minus, .high, false) := by decide

theorem test_step_logical :
    xAfter 0o060500 [(1, 0xF0), (2, 0x3C)] 1 = some 0x30 ∧
    xAfter 0o160500 [(1, 0xFFFFFFFFFFFFFFFF), (2, 0x8001)] 1 = some 0xFFFFFFFFFFFF8001 ∧
    xAfter 0o260500 [(1, 0xFFFFFFFFFFFFFFFF), (2, 0x7FFFFFFF)] 1 = some 0x7FFFFFFF ∧
    xAfter 0o360500 [(1, 0xFF00FF00FF00FF00), (2, 0xFF00FF00FF00FF0)] 1 = some 0xF000F000F000F00 ∧
    xAfter 0o064500 [(1, 0x1), (2, 0x80)] 1 = some 0xFFFFFFFFFFFFFF81 ∧
    xAfter 0o164500 [(1, 0xF0F), (2, 0xF0)] 1 = some 0xFFF ∧
    xAfter 0o264500 [(1, 0x80000000), (2, 0x1)] 1 = some 0xFFFFFFFF80000001 ∧
    xAfter 0o364500 [(1, 0x8000000000000000), (2, 0x1)] 1 = some 0x8000000000000001 ∧
    xAfter 0o044500 [(1, 0xFF), (2, 0xF)] 1 = some 0xFFFFFFFFFFFFFFF0 ∧
    xAfter 0o144500 [(1, 0xAAAA), (2, 0xFFFF)] 1 = some 0x5555 ∧
    xAfter 0o244500 [(1, 0xFFFFFFFF), (2, 0xFFFFFFFF)] 1 = some 0x0 ∧
    xAfter 0o347300 [(6, 0x123456789ABCDEF0)] 6 = some 0x0 := by decide

theorem test_step_multiply_extensibly :
    xAfter 0o170500 [(1, 0xFFFF), (2, 0xFFFF)] 1 = some 0x1 ∧
    xAfter 0o170500 [(1, 0x8000), (2, 0x8000)] 1 = some 0x40000000 ∧
    xAfter 0o270500 [(1, 0x80000000), (2, 0x80000000)] 1 = some 0x4000000000000000 ∧
    xAfter 0o371240 [(2, 0x8000000000000000), (5, 0x8000000000000000)] 2 = some 0x4000000000000000 ∧
    xAfter 0o371240 [(2, 0x8000000000000000), (5, 0x8000000000000000)] 3 = some 0x0 ∧
    xAfter 0o371240 [(2, 0xFFFFFFFFFFFFFFFF), (5, 0x2)] 2 = some 0xFFFFFFFFFFFFFFFF ∧
    xAfter 0o371240 [(2, 0xFFFFFFFFFFFFFFFF), (5, 0x2)] 3 = some 0xFFFFFFFFFFFFFFFE := by decide

theorem test_step_divide_extensibly :
    xAfter 0o175240 [(2, 0x7), (5, 0xFFFE)] 2 = some 0xFFFFFFFFFFFFFFFD ∧
    xAfter 0o175240 [(2, 0x7), (5, 0xFFFE)] 3 = some 0xFFFFFFFFFFFFFFFF ∧
    xAfter 0o175240 [(2, 0xFFFFFFF9), (5, 0xFFFE)] 2 = some 0x3 ∧
    xAfter 0o175240 [(2, 0xFFFFFFF9), (5, 0xFFFE)] 3 = some 0x1 ∧
    xAfter 0o275240 [(2, 0x100000001), (5, 0x10000)] 2 = some 0x10000 ∧
    xAfter 0o275240 [(2, 0x100000001), (5, 0x10000)] 3 = some 0x1 ∧
    xAfter 0o275240 [(2, 0xFFFFFFFFFFFFFFF9), (5, 0xFFFFFFFE)] 2 = some 0x3 ∧
    xAfter 0o275240 [(2, 0xFFFFFFFFFFFFFFF9), (5, 0xFFFFFFFE)] 3 = some 0x1 ∧
    xAfter 0o375240 [(2, 0x1), (3, 0x0), (5, 0x3)] 2 = some 0x0 ∧
    xAfter 0o375240 [(2, 0x1), (3, 0x0), (5, 0x3)] 3 = some 0x5555555555555555 ∧
    xAfter 0o375240 [(2, 0x1), (3, 0x0), (5, 0x3)] 4 = some 0x1 ∧
    xAfter 0o375240 [(2, 0xFFFFFFFFFFFFFFFF), (3, 0xFFFFFFFFFFFFFFF9), (5, 0x2)] 2 = some 0xFFFFFFFFFFFFFFFF ∧
    xAfter 0o375240 [(2, 0xFFFFFFFFFFFFFFFF), (3, 0xFFFFFFFFFFFFFFF9), (5, 0x2)] 3 = some 0xFFFFFFFFFFFFFFFD ∧
    xAfter 0o375240 [(2, 0xFFFFFFFFFFFFFFFF), (3, 0xFFFFFFFFFFFFFFF9), (5, 0x2)] 4 = some 0xFFFFFFFFFFFFFFFF := by decide

theorem test_step_divide_extensibly_unsigned :
    xAfter 0o101240 [(2, 0xFFFFFFFF), (5, 0xFFFF)] 2 = some 0x10001 ∧
    xAfter 0o101240 [(2, 0xFFFFFFFF), (5, 0xFFFF)] 3 = some 0x0 ∧
    xAfter 0o201240 [(2, 0xFFFFFFFFFFFFFFFF), (5, 0x2)] 2 = some 0x7FFFFFFFFFFFFFFF ∧
    xAfter 0o201240 [(2, 0xFFFFFFFFFFFFFFFF), (5, 0x2)] 3 = some 0x1 ∧
    xAfter 0o301240 [(2, 0xFFFFFFFFFFFFFFFF), (3, 0xFFFFFFFFFFFFFFFF), (5, 0xFFFFFFFFFFFFFFFF)] 2 = some 0x1 ∧
    xAfter 0o301240 [(2, 0xFFFFFFFFFFFFFFFF), (3, 0xFFFFFFFFFFFFFFFF), (5, 0xFFFFFFFFFFFFFFFF)] 3 = some 0x1 ∧
    xAfter 0o301240 [(2, 0xFFFFFFFFFFFFFFFF), (3, 0xFFFFFFFFFFFFFFFF), (5, 0xFFFFFFFFFFFFFFFF)] 4 = some 0x0 := by decide

theorem test_step_shifts_long :
    xAfter 0o603001 [(3, 0x8000000000000001)] 3 = some 0x2 ∧
    xAfter 0o603101 [(3, 0x8000000000000001)] 3 = some 0x4000000000000000 ∧
    xAfter 0o603201 [(3, 0x8000000000000001)] 3 = some 0x3 ∧
    xAfter 0o603301 [(3, 0x8000000000000001)] 3 = some 0xC000000000000000 := by decide

theorem test_step_shifts_integer :
    xAfter 0o643001 [(3, 0xAAAAAAAA80000001)] 3 = some 0x2 ∧
    xAfter 0o643101 [(3, 0xAAAAAAAA80000001)] 3 = some 0x40000000 ∧
    xAfter 0o643201 [(3, 0xAAAAAAAA80000001)] 3 = some 0x3 ∧
    xAfter 0o643301 [(3, 0xAAAAAAAA80000001)] 3 = some 0xFFFFFFFFC0000000 := by decide

theorem test_step_shifts_halfword :
    xAfter 0o663001 [(3, 0xAAAAAAAAAAAA8001)] 3 = some 0x2 ∧
    xAfter 0o663101 [(3, 0xAAAAAAAAAAAA8001)] 3 = some 0x4000 ∧
    xAfter 0o663201 [(3, 0xAAAAAAAAAAAA8001)] 3 = some 0x3 ∧
    xAfter 0o663301 [(3, 0xAAAAAAAAAAAA8001)] 3 = some 0xFFFFFFFFFFFFC000 := by decide

theorem test_step_shifts_byte :
    xAfter 0o670031 [(3, 0xAAAAAAAAAAAAAA81)] 3 = some 0x2 ∧
    xAfter 0o670131 [(3, 0xAAAAAAAAAAAAAA81)] 3 = some 0x40 ∧
    xAfter 0o670231 [(3, 0xAAAAAAAAAAAAAA81)] 3 = some 0x3 ∧
    xAfter 0o670331 [(3, 0xAAAAAAAAAAAAAA81)] 3 = some 0xFFFFFFFFFFFFFFC0 := by decide

/-- The outcomes of section 2.2, the order of the checks among them: `0o375401` is reserved before its register is odd. -/
theorem test_step_outcomes :
    faultAfter 0o034500 [(1, 0x0), (2, 0x9)] = some (.divideByZero 0o034500#18) ∧
    faultAfter 0o134500 [(1, 0x10000), (2, 0x5)] = some (.divideByZero 0o134500#18) ∧
    faultAfter 0o234500 [(1, 0xFFFFFFFF), (2, 0x80000000)] = some (.divideOverflow 0o234500#18) ∧
    faultAfter 0o334440 [(1, 0x0)] = some (.divideByZero 0o334440#18) ∧
    faultAfter 0o254500 [(1, 0x100000000), (2, 0x1)] = some (.divideByZero 0o254500#18) ∧
    faultAfter 0o371640 [(3, 0x1), (5, 0x1)] = some (.registerSpecification 0o371640#18) ∧
    faultAfter 0o175240 [(2, 0x80000000), (5, 0xFFFF)] = some (.divideOverflow 0o175240#18) ∧
    faultAfter 0o275240 [(2, 0x8000000000000000), (5, 0xFFFFFFFF)] = some (.divideOverflow 0o275240#18) ∧
    faultAfter 0o375240 [(2, 0x8000000000000000), (3, 0x0), (5, 0xFFFFFFFFFFFFFFFF)] = some (.divideOverflow 0o375240#18) ∧
    faultAfter 0o301240 [(2, 0x0), (3, 0xA), (5, 0x0)] = some (.divideByZero 0o301240#18) ∧
    faultAfter 0o034500 [(1, 0xFF), (2, 0x80)] = some (.divideOverflow 0o034500#18) ∧
    faultAfter 0o375400 [(0, 0x0), (3, 0x0), (4, 0x9)] = some (.registerSpecification 0o375400#18) ∧
    faultAfter 0o375401 [] = some (.reservedInstruction 0o375401#18) := by decide

/-! ### Branches, flags, floating point, SVC: 95_test_vectors.md sections 2.3, 2.5, 2.6 -/

theorem test_step_branch_targets :
    pcAfter (at_ 0x1000 64 [0o703400#18, 0, 0]) = some { ca := 0x1008, slot := 0 } ∧
    pcAfter (at_ 0x1000 64 [0o703776#18, 0, 0]) = some { ca := 0x1000, slot := 0 } ∧
    pcAfter (at_ 0x1000 64 [0o703600#18, 0, 0]) = some { ca := 0xE08, slot := 0 } ∧
    pcAfter (at_ 0x1000 64 [0o703577#18, 0, 0]) = some { ca := 0x1204, slot := 0 } ∧
    pcAfter (at_ 0 48 [0o703600#18, 0]) = some { ca := 0xFFFFFFFFFFFFFE06, slot := 0 } ∧
    pcAfter (at_ 0xFFFFFFFFFFFFFFF8 64 [0o703400#18, 0, 0]) = some { ca := 0, slot := 0 } := by decide

/-- Not taken: the next slot, and after the last slot the address after the container. -/
theorem test_step_branch_not_taken :
    pcAfter (at_ 0x1000 64 [0o704776#18, 0, 0]) = some { ca := 0x1000, slot := 1 } ∧
    pcAfter { at_ 0x1000 64 [0, 0, 0o700125#18] with pc := { ca := 0x1000, slot := 2 } } =
      some { ca := 0x1008, slot := 0 } := by decide

/-- Whether a branch is taken when the three relations are at their first, second and third value, with `cc.v` and `cc.c`
clear, set and clear. -/
def takenIn (mk : BitVec 8 → Instr) : List Bool :=
  [({ raw := .low, sgn := .minus, uns := .low, v := false, c := false } : CC),
    { raw := .equal, sgn := .zero, uns := .equal, v := true, c := true },
    { raw := .high, sgn := .plus, uns := .high, v := false, c := false }].map fun cc =>
      (nextOf (exec (mk 1#8) { at_ 0x1000 64 [0, 0, 0] with cc := cc })).map State.pc == some { ca := 0x100C, slot := 0 }

/-- The table of section 2.5. -/
theorem test_branches_taken :
    takenIn .nop = [false, false, false] ∧
    takenIn .blr = [true, false, false] ∧
    takenIn .ber = [false, true, false] ∧
    takenIn .bler = [true, true, false] ∧
    takenIn .bhr = [false, false, true] ∧
    takenIn .bner = [true, false, true] ∧
    takenIn .bher = [false, true, true] ∧
    takenIn .b = [true, true, true] ∧
    takenIn .bm = [true, false, false] ∧
    takenIn .bz = [false, true, false] ∧
    takenIn .bmz = [true, true, false] ∧
    takenIn .bp = [false, false, true] ∧
    takenIn .bnz = [true, false, true] ∧
    takenIn .bpz = [false, true, true] ∧
    takenIn .bnv = [true, false, true] ∧
    takenIn .bl = [true, false, false] ∧
    takenIn .be = [false, true, false] ∧
    takenIn .ble = [true, true, false] ∧
    takenIn .bh = [false, false, true] ∧
    takenIn .bne = [true, false, true] ∧
    takenIn .bhe = [false, true, true] ∧
    takenIn .bnc = [true, false, true] ∧
    takenIn .bc = [false, true, false] ∧
    takenIn .bv = [false, true, false] := by decide

theorem test_step_flags :
    flagAfter 0o721052 { State.reset.cc with sgn := .zero } 1 false = some true ∧
    flagAfter 0o721052 { State.reset.cc with sgn := .plus } 1 true = some true ∧
    flagAfter 0o721452 { State.reset.cc with sgn := .zero } 1 true = some false ∧
    flagAfter 0o721452 { State.reset.cc with sgn := .minus } 1 true = some true ∧
    flagAfter 0o722126 { State.reset.cc with uns := .high } 2 false = some true ∧
    flagAfter 0o722126 { State.reset.cc with uns := .low } 2 true = some false := by decide

theorem test_step_svc : exec (.svc 0x2A#8) State.reset = .refused (.supervisorCall 42#8) := rfl

/-- A content to tell apart, and no more. -/
def fv (n : Nat) : FVal :=
  { content := n }

/-- `LQ f0, f7` under the reference parameters; the values of the other floating-point instructions are free. -/
theorem test_step_lq :
    (nextOf (run 0o550340 (State.reset.writeF 7 (FVal.ofQuad (floatOne .quad))))).map (State.readF · 0) =
      some (FVal.ofQuad (floatOne .quad)) := by decide

theorem test_step_swq :
    (nextOf (run 0o540500 (State.reset.writeF 1 (fv 5)))).map (fun t => (t.readF 1, t.readF 2)) = some (fv 0, fv 5) := by decide

/-- Four floating-point registers with contents to tell apart. -/
def floats : State :=
  { State.reset with f := [fv 10, fv 20, fv 30, fv 40] }

abbrev x20 : FVal := fv 20

abbrev x30 : FVal := fv 30

/-- Registers 1 and 2 after an instruction on `f1, f2`. -/
def fAfter (i : Instr) : Option (FVal × FVal) :=
  (nextOf (exec i floats)).map fun t => (t.readF 1, t.readF 2)

/-- Which function of the record each instruction of type M applies, to which operands, and where (section 2.3). -/
theorem test_step_float_medium :
    fAfter (.lm 1 2) = some (Config.fnumLoad .medium x30, x30) ∧ fAfter (.stm 1 2) = some (Config.fnumStore .medium x20 x30, x30) ∧
    fAfter (.swm 1 2) = some (Config.fnumSwap .medium x20 x30) ∧
    fAfter (.am 1 2) = some (Config.fnumAdd .medium x20 x30, x30) ∧
    fAfter (.sm 1 2) = some (Config.fnumSub .medium x20 x30, x30) ∧
    fAfter (.mm 1 2) = some (Config.fnumMul .medium x20 x30, x30) ∧
    fAfter (.dm 1 2) = some (Config.fnumDiv .medium x30 x20, x30) ∧ fAfter (.cm 1 2) = some (x20, x30) :=
  ⟨rfl, rfl, rfl, rfl, rfl, rfl, rfl, rfl⟩

/-- Which function of the record each instruction of type F applies, to which operands, and where (section 2.3). -/
theorem test_step_float_floating :
    fAfter (.lf 1 2) = some (Config.fnumLoad .floating x30, x30) ∧ fAfter (.stf 1 2) = some (Config.fnumStore .floating x20 x30, x30) ∧
    fAfter (.swf 1 2) = some (Config.fnumSwap .floating x20 x30) ∧
    fAfter (.af 1 2) = some (Config.fnumAdd .floating x20 x30, x30) ∧
    fAfter (.sf 1 2) = some (Config.fnumSub .floating x20 x30, x30) ∧
    fAfter (.mf 1 2) = some (Config.fnumMul .floating x20 x30, x30) ∧
    fAfter (.df 1 2) = some (Config.fnumDiv .floating x30 x20, x30) ∧ fAfter (.cf 1 2) = some (x20, x30) :=
  ⟨rfl, rfl, rfl, rfl, rfl, rfl, rfl, rfl⟩

/-- Which function of the record each instruction of type D applies, to which operands, and where (section 2.3). -/
theorem test_step_float_double :
    fAfter (.ld 1 2) = some (Config.fnumLoad .double x30, x30) ∧ fAfter (.std 1 2) = some (Config.fnumStore .double x20 x30, x30) ∧
    fAfter (.swd 1 2) = some (Config.fnumSwap .double x20 x30) ∧
    fAfter (.ad 1 2) = some (Config.fnumAdd .double x20 x30, x30) ∧
    fAfter (.sd 1 2) = some (Config.fnumSub .double x20 x30, x30) ∧
    fAfter (.md 1 2) = some (Config.fnumMul .double x20 x30, x30) ∧
    fAfter (.dd 1 2) = some (Config.fnumDiv .double x30 x20, x30) ∧ fAfter (.cd 1 2) = some (x20, x30) :=
  ⟨rfl, rfl, rfl, rfl, rfl, rfl, rfl, rfl⟩

/-- Which function of the record each instruction of type Q applies, to which operands, and where (section 2.3). -/
theorem test_step_float_quad :
    fAfter (.lq 1 2) = some (x30, x30) ∧ fAfter (.stq 1 2) = some (x30, x30) ∧
    fAfter (.swq 1 2) = some (x30, x20) ∧
    fAfter (.aq 1 2) = some (Config.fnumAdd .quad x20 x30, x30) ∧
    fAfter (.sq 1 2) = some (Config.fnumSub .quad x20 x30, x30) ∧
    fAfter (.mq 1 2) = some (Config.fnumMul .quad x20 x30, x30) ∧
    fAfter (.dq 1 2) = some (Config.fnumDiv .quad x30 x20, x30) ∧ fAfter (.cq 1 2) = some (x20, x30) :=
  ⟨rfl, rfl, rfl, rfl, rfl, rfl, rfl, rfl⟩

/-- With four floating-point registers `AF f5, f1` names a register outside the file (section 2.3). -/
theorem test_step_af_register :
    faultOf (run 0o462440 floats) = some (.registerSpecification 0o462440#18) := by
  decide

/-- Patterns of section 2.3 read by the value formula: F -2.0, M 1.5, D -2.0, Q 1.5, Q 0.5. -/
theorem test_float_values :
    floatValue .floating 0xC0000000#128 = { num := -2 ^ 23, exp := -22 } ∧
    floatValue .medium 0x3FF000000000#128 = { num := 3 * 2 ^ 36, exp := -37 } ∧
    floatValue .double 0xC000000000000000#128 = { num := -2 ^ 52, exp := -51 } ∧
    floatValue .quad 0x3FFFFE00000000000000000000000000#128 = { num := 3 * 2 ^ 105, exp := -106 } ∧
    floatValue .quad 0x3FFFF400000000000000000000000000#128 = { num := 2 ^ 106, exp := -107 } := by decide

/-- A reset run fetches nothing: the launch state has no text. -/
theorem test_step_reset : step State.reset = .refused (.leftScope 0) := rfl

/-- A machine whose OPERATE_LAYOUT has source and destination the other way round at one value of `w[10:0]`, whose
SVC_LAYOUT has a code the other way up, and that is the reference machine elsewhere. -/
def otherLayouts : LayoutTable where
  operate := [(0b00101000000#11, { dst := 2, src := 1, reserved := false }),
    (0b00101000001#11, { dst := 9, src := 1, reserved := false })]
  shift := [(0o600000#18, { reg := 0, count := 64, reserved := false })]
  flag := [(0x52#8, { flag := 3, cond := 7#5 })]
  svc := [(0x2A#8, 0xD5#8)]

/-- The machine of the other layouts, registers 1 and 2 at 5 and 7. -/
def otherMachine : State :=
  { start [(1, 5), (2, 7)] with par := { refParams with layouts := otherLayouts } }

/-- The step decodes by the machine's own layouts: `0o220500` is `A r2, r1` here and `A r1, r2` in the reference machine,
`0o220501` names a register outside the file here and is reserved there, `0o600000` is reserved for its count here. -/
theorem test_step_other_layouts :
    (nextOf (run 0o220500 otherMachine)).map (fun t => (t.readX 1, t.readX 2)) = some (5, 12) ∧
    (nextOf (run 0o220500 (start [(1, 5), (2, 7)]))).map (fun t => (t.readX 1, t.readX 2)) = some (12, 7) ∧
    faultOf (run 0o220501 otherMachine) = some (.registerSpecification 0o220501#18) ∧
    faultOf (run 0o600000 otherMachine) = some (.reservedInstruction 0o600000#18) ∧
    (nextOf (run 0o721122 otherMachine)).map (State.readFlag · 3) = some true ∧
    run 0o737052 otherMachine = .refused (.supervisorCall 0xD5#8) :=
  ⟨by decide, by decide, by decide, by decide, by decide, rfl⟩

/-! ### Witnesses: a state and operands that meet the hypotheses of each obligation -/

/-- Registers 1 and 2 with values. -/
def pair (a b : XVal) : State :=
  start [(1, a), (2, b)]

theorem witness_DecodeAfterEncode : (Instr.mel 6 0).wellFormed = true ∧ (Instr.lsrbc 7 7).wellFormed = true ∧
    (Instr.ctf 7 25#5).wellFormed = true := by decide

theorem witness_EncodeAfterDecode : decode 0o373000#18 = some (.mel 6 0) := by decide

theorem witness_ReservedWordsDecodeToNothing :
    fieldNat 0o003777#18 11 7 = 0 ∧
    ([0o610000#18, 0o620000#18, 0o630000#18, 0o657777#18].all fun w =>
      decide (fieldNat w 15 3 = 6 ∧ fieldNat w 12 3 ∈ [1, 2, 3, 5])) = true ∧
    ([0o704000#18, 0o710377#18, 0o737400#18].all fun w =>
      decide (fieldNat w 14 4 = 14 ∧ fieldNat w 8 6 ∈ [8, 16, 63])) = true ∧
    ([0o715000#18, 0o720777#18].all fun w =>
      decide (fieldNat w 14 4 = 14 ∧ 26 ≤ fieldNat w 8 6 ∧ fieldNat w 8 6 ≤ 33)) = true ∧
    ([0o722400#18, 0o736777#18].all fun w =>
      decide (fieldNat w 14 4 = 14 ∧ 37 ≤ fieldNat w 8 6 ∧ fieldNat w 8 6 ≤ 61)) = true ∧
    fieldNat 0o740000#18 14 4 = 15 := by decide

theorem witness_FormatSelectionIgnoresTheLayouts :
    decodeWith Layouts.ref 0o220500#18 = some (.a 1 2) ∧ decodeWith Layouts.ref 0o577740#18 = some (.dq 7 7) ∧
    decodeWith Layouts.ref 0o603077#18 = some (.lsllc 3 63) ∧ decodeWith Layouts.ref 0o703776#18 = some (.b 254#8) ∧
    decodeWith Layouts.ref 0o722371#18 = some (.ctf 7 25#5) ∧
    decodeWith Layouts.ref 0o737377#18 = some (.svc 255#8) := by decide

/-- A container of three: an ADD, a reserved word and a NOP. -/
def three : Container :=
  { len := 64, words := [0o220500#18, 0, 0o700000#18] }

/-- The state at slot `slot` of that container. -/
def atThree (slot : Nat) : State :=
  { State.reset with text := [(0x1000, three)], pc := { ca := 0x1000, slot := slot } }

/-- The reference machine and another, and in both a word that is no instruction. -/
theorem witness_StepRunsTheDecodedInstruction :
    (atThree 0).text.lookup (atThree 0).pc.ca = some three ∧ three.words[(atThree 0).pc.slot]? = some 0o220500#18 ∧
    (atThree 0).decodeWord 0o220500#18 = some (.a 1 2) ∧ (atThree 0).par.layouts = refParams.layouts ∧
    otherMachine.decodeWord 0o220500#18 = some (.a 2 1) ∧ otherMachine.par.layouts ≠ refParams.layouts ∧
    (atThree 1).text.lookup (atThree 1).pc.ca = some three ∧ three.words[(atThree 1).pc.slot]? = some 0 ∧
    (atThree 1).decodeWord 0 = none ∧ otherMachine.decodeWord 0 = none := by decide

theorem witness_FetchWithoutAContainerLeavesScope :
    State.reset.text.lookup State.reset.pc.ca = none ∧ (atThree 3).text.lookup (atThree 3).pc.ca = some three ∧
    three.words.length ≤ (atThree 3).pc.slot := by decide

theorem witness_FaultNamesTheFetchedWord : step (atThree 1) = .fault (.reservedInstruction 0) := rfl

theorem witness_StepKeepsTheInvariant : (atThree 2).Inv ∧ (nextOf (step (atThree 2))).isSome = true := by decide

theorem witness_StepKeepsTextModeAndSizes : (nextOf (step (atThree 0))).isSome = true := by decide

theorem witness_StepKeepsEvenAddresses : (atThree 2).text.wf ∧ 1 ≤ (atThree 2).par.aw ∧ (atThree 2).pc.ca % 2 = 0 ∧
    (nextOf (step (atThree 2))).isSome = true := by decide

theorem witness_SequentialAdvance :
    (atThree 1).text.lookup (atThree 1).pc.ca = some three ∧ (atThree 1).pc.slot + 1 < three.words.length ∧
    (atThree 2).text.lookup (atThree 2).pc.ca = some three ∧ three.words.length ≤ (atThree 2).pc.slot + 1 := by decide

theorem witness_TakenBranchTarget : (atThree 2).text.lookup (atThree 2).pc.ca = some three := by decide

theorem witness_SelfBranchReach :
    (atThree 0).text.lookup (atThree 0).pc.ca = some three ∧ three.wf ∧ 2 ≤ (atThree 0).par.aw ∧
    (atThree 0).pc.ca < 2 ^ (atThree 0).par.aw := by decide

theorem witness_ContainerLengths : containerLen 2 = some 48 ∧ containerLen 15 = some 288 := by decide

theorem witness_OnlyCompareWritesConditionCodes : (Instr.a 1 2).isCompare = false ∧
    (nextOf (exec (.a 1 2) State.reset)).isSome = true := by decide

theorem witness_RegisterFilesAreSeparate : (Instr.aq 1 2).form.namesX = false ∧ (Instr.sfc 0 0).form.namesX = false ∧
    (Instr.a 1 2).form.namesF = false ∧ (Instr.svc 0).form.namesF = false := by decide

theorem witness_FlagsAreWriteOnly : (List.replicate 8 true).length = State.reset.pf.length ∧
    (Instr.a 1 2).form.namesFlag = false ∧ (nextOf (exec (.a 1 2) State.reset)).isSome = true := by decide

theorem witness_LoadSignExtends : 7 < State.reset.nireg ∧ 0 < State.reset.nireg := by decide

theorem witness_UnsignedLoadClears : 7 < State.reset.nireg ∧ 0 < State.reset.nireg := by decide

theorem witness_InsertKeepsTheRest : 7 < State.reset.nireg ∧ 0 < State.reset.nireg := by decide

theorem witness_StoreFillsTheDestination : 7 < State.reset.nireg ∧ 0 < State.reset.nireg := by decide

theorem witness_SwapExchangesLocations : 7 < State.reset.nireg ∧ 7 < State.reset.nireg := by decide

theorem witness_AddAndSubtractWrap : 7 < State.reset.nireg ∧ 0 < State.reset.nireg := by decide

theorem witness_MultiplyKeepsTheLowHalf : 7 < State.reset.nireg ∧ 0 < State.reset.nireg := by decide

theorem witness_LogicalOperationsAreBitwise : 7 < State.reset.nireg ∧ 0 < State.reset.nireg := by decide

theorem witness_CompareReportsBothOrders : 7 < State.reset.nireg ∧ 0 < State.reset.nireg := by decide

theorem witness_CompareThenBranch : 7 < State.reset.nireg ∧ 0 < State.reset.nireg := by decide

/-- The divisor -1 with the least dividend that does not overflow, at each width. -/
theorem witness_DivideTruncates :
    ((pair (-1) 0x81).signedDivisor 8 1 2 = -1 ∧ (pair (-1) 0x81).signedDividend 8 1 2 = -2 ^ 7 + 1) ∧
    ((pair (-1) 0x8001).signedDivisor 16 1 2 = -1 ∧ (pair (-1) 0x8001).signedDividend 16 1 2 = -2 ^ 15 + 1) ∧
    ((pair (-1) 0x80000001).signedDivisor 32 1 2 = -1 ∧
      (pair (-1) 0x80000001).signedDividend 32 1 2 = -2 ^ 31 + 1) ∧
    ((pair (-1) 0x8000000000000001).signedDivisor 64 1 2 = -1 ∧
      (pair (-1) 0x8000000000000001).signedDividend 64 1 2 = -2 ^ 63 + 1) ∧
    1 < (pair (-1) 0x81).nireg ∧ 2 < (pair (-1) 0x81).nireg := by decide

theorem witness_DivideUnsignedFloors :
    (pair 1 2).unsignedDivisor 8 1 2 ≠ 0 ∧ (pair (-1) 2).unsignedDivisor 16 1 2 ≠ 0 ∧
    (pair 0x80000000 2).unsignedDivisor 32 1 2 ≠ 0 ∧ (pair 1 (-1)).unsignedDivisor 64 1 2 ≠ 0 ∧
    1 < (pair 1 2).nireg ∧ 2 < (pair 1 2).nireg := by decide

theorem witness_MultiplyExtensiblyGivesTheFullProduct :
    7 < State.reset.nireg ∧ 0 < State.reset.nireg ∧ 6 % 2 = 0 ∧ 6 + 1 < State.reset.nireg := by decide

/-- For DEH, DE and DEL: the most negative dividend by 1, and the file's last register as the remainder. -/
theorem witness_DivideExtensiblyFollowsTheSignRule :
    (1 + 1 < (pair 0x80000000 1).nireg ∧ 2 < (pair 0x80000000 1).nireg ∧
      sval 32 ((pair 0x80000000 1).readX 1) = -2 ^ 31 ∧ sval 16 ((pair 0x80000000 1).readX 2) = 1) ∧
    (((pair 0x8000000000000000 1).readX 1).toInt = -2 ^ 63 ∧ sval 32 ((pair 0x8000000000000000 1).readX 2) = 1) ∧
    (4 % 2 = 0 ∧ 4 + 2 < (start [(4, 0x8000000000000000), (7, 1)]).nireg ∧
      ((start [(4, 0x8000000000000000), (7, 1)]).readPair 4).toInt = -2 ^ 127 ∧
      ((start [(4, 0x8000000000000000), (7, 1)]).readX 7).toInt = 1) := by decide

theorem witness_DivideExtensiblyUnsignedFloors :
    1 + 1 < (pair 9 1).nireg ∧ uval 16 ((pair 9 1).readX 2) ≠ 0 ∧ uval 32 ((pair 9 1).readX 2) ≠ 0 ∧
    4 % 2 = 0 ∧ 4 + 2 < (pair 9 1).nireg ∧ ((pair 9 1).readX 2).toNat ≠ 0 := by decide

theorem witness_DivisionHelpersFollowTheSource : (-2 : Int) < 0 ∧ (divmag 7 (-2)).2 ≠ 0 ∧ (0 : Int) < 2 := by decide

theorem witness_DivideByZeroStops :
    ([8, 16, 32, 64].all fun n => decide (State.reset.signedDivisor n 1 2 = 0)) = true ∧
    ([8, 16, 32, 64].all fun n => decide (State.reset.unsignedDivisor n 1 2 = 0)) = true ∧
    1 < State.reset.nireg ∧ 2 < State.reset.nireg ∧ 6 + 1 < State.reset.nireg ∧
    uval 16 ((pair 9 0xABCD0000).readX 2) = 0 ∧ uval 32 ((pair 9 0x700000000).readX 2) = 0 ∧
    4 % 2 = 0 ∧ 4 + 2 < State.reset.nireg ∧ State.reset.readX 7 = 0 := by decide

theorem witness_DivideOverflowStops :
    ((pair (-1) 0x80).signedDividend 8 1 2 = -2 ^ 7 ∧ (pair (-1) 0x80).signedDivisor 8 1 2 = -1) ∧
    ((pair (-1) 0x8000).signedDividend 16 1 2 = -2 ^ 15 ∧ (pair (-1) 0x8000).signedDivisor 16 1 2 = -1) ∧
    ((pair (-1) 0x80000000).signedDividend 32 1 2 = -2 ^ 31 ∧
      (pair (-1) 0x80000000).signedDivisor 32 1 2 = -1) ∧
    ((pair (-1) 0x8000000000000000).signedDividend 64 1 2 = -2 ^ 63 ∧
      (pair (-1) 0x8000000000000000).signedDivisor 64 1 2 = -1) ∧
    (sval 32 ((pair 0x80000000 0xFFFF).readX 1) = -2 ^ 31 ∧ sval 16 ((pair 0x80000000 0xFFFF).readX 2) = -1) ∧
    (((pair 0x8000000000000000 0xFFFFFFFF).readX 1).toInt = -2 ^ 63 ∧
      sval 32 ((pair 0x8000000000000000 0xFFFFFFFF).readX 2) = -1) ∧
    (((start [(4, 0x8000000000000000), (7, -1)]).readPair 4).toInt = -2 ^ 127 ∧
      ((start [(4, 0x8000000000000000), (7, -1)]).readX 7).toInt = -1 ∧
      4 + 2 < (start [(4, 0x8000000000000000), (7, -1)]).nireg) := by decide

theorem witness_RegisterNumbersAreChecked :
    (¬(8 < State.reset.nireg ∧ 0 < State.reset.nireg) ∧ (Instr.a 8 0).form = .intOp 8 0) ∧
    (¬(0 < State.reset.nfreg ∧ 8 < State.reset.nfreg) ∧ (Instr.aq 0 8).form = .floatOp 0 8) ∧
    (63 < ShSize.long.width ∧ State.reset.nireg ≤ 8 ∧ (Instr.lsllc 8 63).form = .shift .long 8 63) ∧
    3 % 2 = 1 ∧ State.reset.nireg ≤ 7 + 1 ∧ State.reset.nireg ≤ 6 + 2 := by decide

theorem witness_DivisionUndoesMultiplication : 4 % 2 = 0 ∧ 4 + 2 < (start [(6, 3)]).nireg ∧ 6 < (start [(6, 3)]).nireg ∧
    6 ≠ 4 ∧ 6 ≠ 4 + 1 ∧ (start [(6, 3)]).readX 6 ≠ 0 := by decide

theorem witness_ClearingARegister : 7 < State.reset.nireg ∧ State.reset.par.narrowExt ≠ .unchanged := by decide

theorem witness_FloatLoadStoreSwap : 7 < State.reset.nfreg ∧ 0 < State.reset.nfreg ∧ 0 ≠ 7 := by decide

/-- Both values of `DIV_ORDER`. -/
theorem witness_FloatArithmeticUsesTheRecord : 7 < State.reset.nfreg ∧ 0 < State.reset.nfreg ∧
    State.reset.par.divOrder = .srcByDst ∧
    ({ State.reset with par := { refParams with divOrder := .dstBySrc } } : State).par.divOrder = .dstBySrc := by decide

/-- The order `FNUM.cmp` gives is uninterpreted, so the inner premises have no witness; the completion and the frame
rest on these hypotheses alone. -/
theorem witness_FloatCompareReportsTheOrder : 7 < State.reset.nfreg ∧ 0 < State.reset.nfreg := by decide

theorem witness_QuadFillsItsRegister : State.reset.par.quadFills = true ∧ 7 < State.reset.nfreg ∧
    0 < State.reset.nfreg := by decide

theorem witness_LogicalShifts : 7 < State.reset.nireg ∧ 63 < 64 ∧ 31 < 32 ∧ 15 < 16 ∧ 7 < 8 := by decide

theorem witness_ArithmeticShiftRight : 7 < State.reset.nireg ∧ 63 < 64 ∧ 31 < 32 ∧ 15 < 16 ∧ 7 < 8 := by decide

theorem witness_RotateLeft : 7 < State.reset.nireg ∧ 63 < 64 ∧ 31 < 32 ∧ 15 < 16 ∧ 7 < 8 := by decide

theorem witness_ReservedOperandsStop :
    (Instr.lsllc 0 64).form = .shift .long 0 64 ∧ ShSize.long.width ≤ 64 ∧ ShSize.int.width ≤ 32 ∧
    ShSize.half.width ≤ 16 ∧ ShSize.byte.width ≤ 8 ∧
    (8#5).toNat = 8 ∧ (16#5).toNat = 16 ∧ 26 ≤ (26#5).toNat ∧ 26 ≤ (31#5).toNat ∧ State.reset.nflags ≤ 8 := by decide

/-- Both outcomes of a condition are met, so each clause of the branch obligations is about some state. -/
theorem witness_RawBranches : State.reset.cc.raw = .equal ∧ State.reset.cc.raw ≠ .low := by decide

theorem witness_SignedBranches : State.reset.cc.sgn = .zero ∧ State.reset.cc.sgn ≠ .minus := by decide

theorem witness_UnsignedBranches : State.reset.cc.uns = .equal ∧ State.reset.cc.uns ≠ .low := by decide

theorem witness_OverflowAndCarryBranches : State.reset.cc.v = false ∧ State.reset.cc.c = false := by decide

theorem witness_FlagInstructionsWriteOneFlag :
    ([0#5, 7#5, 9#5, 15#5, 17#5, 25#5].all listedCond) = true ∧ 7 < State.reset.nflags := by decide

/-- The premise of the range clause of the formats, met by the patterns of 1.0. -/
theorem witness_FloatFormatsReadOne :
    floatNormalised .floating (floatOne .floating) = true ∧ floatNormalised .quad (floatOne .quad) = true :=
  ⟨rfl, rfl⟩

end Sys2Proof.Tests
end

/-! PROOFS of the statements that rest on 00_scope.md: narrow results modulo `2^N` (R18), the division helpers (R16), the
register-number checks (R17) and the operand layouts as parameters (R7, R8). -/

/-! ## Results of the integer operate instructions -/

namespace Sys2Proof.Machine

/-- An integer operate instruction with one result writes the value its result stands for. -/
theorem intResult_writesValue {n : Nat} (h0 : 0 < n) (hn : n ≤ 64) {e : Ext} {f : BitVec n → BitVec n → BitVec n}
    {rd rs : Nat} {s : State} {v : Int} (hd : rd < s.nireg) (hs : rs < s.nireg)
    (hv : ((f (lo n (s.readX rd)) (lo n (s.readX rs))).toNat : Int) = v % 2 ^ n) :
    WritesValue e n rd v s (intResult n e f rd rs s) :=
  have ht := (State.advance_readX _ rd).trans (s.readX_writeX_same _ hd)
  ⟨_, (intResult_runs n e f rd rs s).1 ⟨hd, hs⟩, OnlyX.one s rd _, Fills.of_extend h0 hn ht hv⟩

/-- The sum of two locations, modulo `2^N` (40_integer_operate.md R117). -/
theorem toNat_lo_add (n : Nat) (a b : XVal) : ((lo n a + lo n b).toNat : Int) = (uval n a + uval n b) % 2 ^ n := by
  rw [uval_eq, uval_eq, BitVec.toNat_add]
  push_cast
  rfl

/-- The difference of two locations, modulo `2^N` (40_integer_operate.md R118). -/
theorem toNat_lo_sub (n : Nat) (a b : XVal) : ((lo n a - lo n b).toNat : Int) = (uval n a - uval n b) % 2 ^ n := by
  rw [uval_eq, uval_eq, BitVec.toNat_sub]
  push_cast [(lo n b).isLt.le]
  rw [← Int.add_emod_right (_ - _)]
  congr 1
  ring

/-- ADD at any width. -/
theorem intResult_add_writesValue {n : Nat} (h0 : 0 < n) (hn : n ≤ 64) (e : Ext) {rd rs : Nat} {s : State}
    (hd : rd < s.nireg) (hs : rs < s.nireg) :
    WritesValue e n rd (uval n (s.readX rd) + uval n (s.readX rs)) s (intResult n e (fun a b => a + b) rd rs s) :=
  intResult_writesValue h0 hn hd hs (toNat_lo_add n _ _)

/-- SUBTRACT at any width: the destination less the source (90_conflicts.md C1). -/
theorem intResult_sub_writesValue {n : Nat} (h0 : 0 < n) (hn : n ≤ 64) (e : Ext) {rd rs : Nat} {s : State}
    (hd : rd < s.nireg) (hs : rs < s.nireg) :
    WritesValue e n rd (uval n (s.readX rd) - uval n (s.readX rs)) s (intResult n e (fun a b => a - b) rd rs s) :=
  intResult_writesValue h0 hn hd hs (toNat_lo_sub n _ _)

/-- Settles O26: each instruction is the one operation at its own width. -/
theorem addAndSubtractWrap : Obligations.AddAndSubtractWrap :=
  ⟨fun _ _ s hd hs =>
    have add {n : Nat} (h0 : 0 < n) (hn : n ≤ 64) := intResult_add_writesValue h0 hn s.par.narrowExt hd hs
    ⟨add (by decide) (by decide), add (by decide) (by decide), add (by decide) (by decide),
      add (by decide) (by decide)⟩,
   fun _ _ s hd hs =>
    have sub {n : Nat} (h0 : 0 < n) (hn : n ≤ 64) := intResult_sub_writesValue h0 hn s.par.narrowExt hd hs
    ⟨sub (by decide) (by decide), sub (by decide) (by decide), sub (by decide) (by decide),
      sub (by decide) (by decide)⟩⟩

end Sys2Proof.Machine

/-! ## The division helpers -/

namespace Sys2Proof.Machine

/-- Operands of one sign: the quotient and the remainder of the magnitudes. -/
theorem divmag_of_same_sign {a b : Int} (h : 0 ≤ a ↔ 0 ≤ b) :
    divmag a b = (((a.natAbs / b.natAbs : Nat) : Int), ((a.natAbs % b.natAbs : Nat) : Int)) := by
  simp [divmag, h]

/-- Operands of opposite signs: both results are negated, the remainder too (90_conflicts.md C7). -/
theorem divmag_of_opposite_sign {a b : Int} (h : ¬(0 ≤ a ↔ 0 ≤ b)) :
    divmag a b = (-((a.natAbs / b.natAbs : Nat) : Int), -((a.natAbs % b.natAbs : Nat) : Int)) := by
  simp [divmag, h]

/-- `divmag` follows the source's rule; for a divisor of 0 it is the rule with the magnitudes' quotient taken as 0. -/
theorem divmag_signedDivision (a b : Int) : SignedDivision a b (divmag a b).1 (divmag a b).2 := by
  by_cases h : 0 ≤ a ↔ 0 ≤ b
  · rw [divmag_of_same_sign h]
    exact ⟨Int.natAbs_natCast _, Int.natAbs_natCast _,
      fun _ => ⟨Int.natCast_nonneg _, Int.natCast_nonneg _⟩, (absurd h ·)⟩
  · rw [divmag_of_opposite_sign h]
    exact ⟨(Int.natAbs_neg _).trans (Int.natAbs_natCast _), (Int.natAbs_neg _).trans (Int.natAbs_natCast _),
      (absurd · h), fun _ => ⟨neg_nonpos.2 (Int.natCast_nonneg _), neg_nonpos.2 (Int.natCast_nonneg _)⟩⟩

/-- The magnitudes of quotient and remainder make up the dividend's. -/
theorem SignedDivision.abs_dividend {a b q r : Int} (h : SignedDivision a b q r) : |a| = |q| * |b| + |r| := by
  obtain ⟨hq, hr, -, -⟩ := h
  zify at hq hr
  rw [hq, hr, mul_comm, Int.mul_ediv_add_emod]

/-- For a positive divisor the rule is the usual identity (00_scope.md R16). -/
theorem SignedDivision.dividend_eq_of_pos {a b q r : Int} (h : SignedDivision a b q r) (hb : 0 < b) :
    a = q * b + r := by
  have habs := h.abs_dividend
  obtain ⟨-, -, hsame, hopposite⟩ := h
  rcases le_or_gt 0 a with ha | ha
  · obtain ⟨hq, hr⟩ := hsame (by omega)
    rwa [abs_of_nonneg ha, abs_of_nonneg hq, abs_of_nonneg hr, abs_of_pos hb] at habs
  · obtain ⟨hq, hr⟩ := hopposite (by omega)
    rw [abs_of_neg ha, abs_of_nonpos hq, abs_of_nonpos hr, abs_of_pos hb] at habs
    linarith

/-- For a negative divisor the remainder has the sign of the quotient and not of the dividend, so the usual identity is
off by twice the remainder (00_scope.md R16, 90_conflicts.md C7). -/
theorem SignedDivision.add_eq_of_neg {a b q r : Int} (h : SignedDivision a b q r) (hb : b < 0) :
    q * b + r = a + 2 * r := by
  have habs := h.abs_dividend
  obtain ⟨-, -, hsame, hopposite⟩ := h
  rcases le_or_gt 0 a with ha | ha
  · obtain ⟨hq, hr⟩ := hopposite (by omega)
    rw [abs_of_nonneg ha, abs_of_nonpos hq, abs_of_nonpos hr, abs_of_neg hb] at habs
    linarith
  · obtain ⟨hq, hr⟩ := hsame (by omega)
    rw [abs_of_neg ha, abs_of_nonneg hq, abs_of_nonneg hr, abs_of_neg hb] at habs
    linarith

/-- The quotient is the one truncated toward zero (40_integer_operate.md R121). -/
theorem divmag_fst_eq_tdiv (a b : Int) : (divmag a b).1 = a.tdiv b := by
  rcases le_or_gt 0 a with ha | ha <;> rcases le_or_gt 0 b with hb | hb
  · rw [divmag_of_same_sign (by omega), Int.ofNat_tdiv, Int.natAbs_of_nonneg ha, Int.natAbs_of_nonneg hb]
  · rw [divmag_of_opposite_sign (by omega), Int.ofNat_tdiv, Int.natAbs_of_nonneg ha, Int.ofNat_natAbs_of_nonpos hb.le,
      Int.tdiv_neg, neg_neg]
  · rw [divmag_of_opposite_sign (by omega), Int.ofNat_tdiv, Int.ofNat_natAbs_of_nonpos ha.le, Int.natAbs_of_nonneg hb,
      Int.neg_tdiv, neg_neg]
  · rw [divmag_of_same_sign (by omega), Int.ofNat_tdiv, Int.ofNat_natAbs_of_nonpos ha.le,
      Int.ofNat_natAbs_of_nonpos hb.le, Int.neg_tdiv, Int.tdiv_neg, neg_neg]

/-- Settles O35: every clause but the quotient's follows from the sign rule alone. -/
theorem divisionHelpersFollowTheSource : Obligations.DivisionHelpersFollowTheSource := by
  refine ⟨fun a b _ => ?_, rfl, fun _ _ _ => rfl⟩
  have hdiv := divmag_signedDivision a b
  have hrem : ((divmag a b).2.natAbs : Int) = a.natAbs - (divmag a b).1.natAbs * b.natAbs := by
    simp [hdiv.abs_dividend]
  have hneg : b < 0 → (divmag a b).2 ≠ 0 → a ≠ (divmag a b).1 * b + (divmag a b).2 := by
    intro hb hr
    rw [hdiv.add_eq_of_neg hb]
    omega
  exact ⟨hdiv, hrem, divmag_fst_eq_tdiv a b, hdiv.dividend_eq_of_pos, hneg⟩

end Sys2Proof.Machine

/-! ## The register checks -/

namespace Sys2Proof.Machine

/-- A shift whose count is in range stops on a register outside the file. -/
theorem shiftReg_stops {n : Nat} {f : BitVec n → Nat → BitVec n} {reg cnt : Nat} {s : State} (hcnt : cnt < n)
    (hreg : s.nireg ≤ reg) : shiftReg n f reg cnt s = .fault (.registerSpecification s.word) :=
  ((shiftReg_runs n f reg cnt s).2 hcnt).2 (Nat.not_lt.2 hreg)

/-- A branch never stops. -/
theorem branchOn_ne_fault (cn : BitVec 5) (disp : BitVec 8) (s : State) (k : Fault) :
    branchOn cn disp s ≠ .fault k := by
  obtain ⟨-, h⟩ | ⟨-, h⟩ := branchOn_cases cn disp s <;> rw [h] <;> nofun

/-- A flag instruction stops on a reserved operand alone. -/
theorem flagOn_ne_registerSpecification (f : Bool → Bool → Bool) (k : Nat) (q : BitVec 5) (s : State) (w : Word) :
    flagOn f k q s ≠ .fault (.registerSpecification w) := by
  have h := flagOn_runs f k q s
  by_cases hok : listedCond q = true ∧ k < s.nflags
  · rw [h.1 hok]
    nofun
  · rw [h.2 hok]
    nofun

/-- Settles O38, by the shape of each instruction. -/
theorem registerNumbersAreChecked : Obligations.RegisterNumbersAreChecked := by
  refine ⟨fun i s => ?_, fun rd rs s hodd => ?_, fun rd rs s hnext => ?_, fun rd rs s hlast => ?_⟩
  · cases i with dsimp only [Instr.form, exec]
    | cb rd rs | ch rd rs | c rd rs | cl rd rs => exact (intCompare_runs _ rd rs s).2
    | swb rd rs | swh rd rs | sw rd rs | swl rd rs => exact (intSwap_runs _ rd rs s).2
    | lb rd rs | lh rd rs | l rd rs | ll rd rs
    | stb rd rs | sth rd rs | st rd rs | stl rd rs
    | ulb rd rs | ulh rd rs | ul rd rs
    | ib rd rs | ih rd rs | i rd rs
    | ab rd rs | ah rd rs | a rd rs | al rd rs
    | sb rd rs | sh rd rs | s rd rs | sl rd rs
    | mb rd rs | mh rd rs | m rd rs | ml rd rs
    | xb rd rs | xh rd rs | x rd rs | xl rd rs
    | nb rd rs | nh rd rs | n rd rs | nl rd rs
    | ob rd rs | oh rd rs | o rd rs | ol rd rs => exact (intResult_runs _ _ _ rd rs s).2
    | db rd rs | dh rd rs | d rd rs | dl rd rs => exact (intDivide_runs _ rd rs s).1
    | dub rd rs | duh rd rs | du rd rs | dul rd rs => exact (intDivideUnsigned_runs _ rd rs s).1
    | meh rd rs | me rd rs => exact (mulExtend_runs _ rd rs s).2
    | deh rd rs | de rd rs => exact fun h => (divExtend_runs _ rd rs s).1 (by tauto)
    | deuh rd rs | deu rd rs => exact fun h => (divExtendUnsigned_runs _ rd rs s).1 (by tauto)
    | mel rd rs => exact fun h => (mulExtendLong_runs rd rs s).2 (by tauto)
    | del rd rs => exact fun h => (divExtendLong_runs rd rs s).1 (by tauto)
    | deul rd rs => exact fun h => (divExtendUnsignedLong_runs rd rs s).1 (by tauto)
    | swm rd rs | swf rd rs | swd rd rs | swq rd rs => exact (floatSwapRegs_runs _ rd rs s).2
    | cm rd rs | cf rd rs | cd rd rs | cq rd rs => exact (floatCompare_runs _ rd rs s).2
    | lm rd rs | lf rd rs | ld rd rs | lq rd rs
    | stm rd rs | stf rd rs | std rd rs | stq rd rs
    | am rd rs | af rd rs | ad rd rs | aq rd rs
    | sm rd rs | sf rd rs | sd rd rs | sq rd rs
    | mm rd rs | mf rd rs | md rd rs | mq rd rs
    | dm rd rs | df rd rs | dd rd rs | dq rd rs => exact (floatResult_runs _ rd rs s).2
    | lsllc reg cnt | lsrlc reg cnt | rllc reg cnt | asrlc reg cnt
    | lslc reg cnt | lsrc reg cnt | rlc reg cnt | asrc reg cnt
    | lslhc reg cnt | lsrhc reg cnt | rlhc reg cnt | asrhc reg cnt
    | lslbc reg cnt | lsrbc reg cnt | rlbc reg cnt | asrbc reg cnt => exact shiftReg_stops
    | nop disp => nofun
    | blr disp | ber disp | bler disp | bhr disp | bner disp | bher disp | b disp
    | bm disp | bz disp | bmz disp | bp disp | bnz disp | bpz disp | bnv disp
    | bl disp | be disp | ble disp | bh disp | bne disp | bhe disp | bnc disp | bc disp | bv disp =>
      exact fun w => branchOn_ne_fault _ disp s _
    | sfc k q | cfc k q | ctf k q => exact flagOn_ne_registerSpecification _ k q s
    | svc code => nofun
  · exact ⟨(mulExtendLong_runs rd rs s).2 (by omega), (divExtendLong_runs rd rs s).1 (by omega),
      (divExtendUnsignedLong_runs rd rs s).1 (by omega)⟩
  · exact ⟨(mulExtendLong_runs rd rs s).2 (by omega), (divExtend_runs 16 rd rs s).1 (by omega),
      (divExtend_runs 32 rd rs s).1 (by omega), (divExtendUnsigned_runs 16 rd rs s).1 (by omega),
      (divExtendUnsigned_runs 32 rd rs s).1 (by omega)⟩
  · exact ⟨(divExtendLong_runs rd rs s).1 (by omega), (divExtendUnsignedLong_runs rd rs s).1 (by omega)⟩

end Sys2Proof.Machine

/-! ## Operand layouts as tables -/

namespace Sys2Proof

/-- Every bit vector of width `n`, in order. -/
def allBitVecs (n : Nat) : List (BitVec n) :=
  (List.finRange (2 ^ n)).map BitVec.ofFin

theorem mem_allBitVecs {n : Nat} (v : BitVec n) : v ∈ allBitVecs n :=
  List.mem_map.2 ⟨v.toFin, List.mem_finRange _, rfl⟩

/-- The graph of a function on bit vectors, as the plain data a `LayoutTable` holds. -/
def graph {n : Nat} {β : Type} (f : BitVec n → β) : List (BitVec n × β) :=
  (allBitVecs n).map fun v => (v, f v)

@[simp] theorem lookup_graph {n : Nat} {β : Type} (f : BitVec n → β) (v : BitVec n) :
    (graph f).lookup v = some (f v) :=
  List.lookup_graph f (mem_allBitVecs v)

/-- What a layout says of one shift word, read at the size that the word's own second octal digit selects: a table has
one entry for a word, `SHIFT_LAYOUT` one for each size (30_encoding.md R72, R83). A word of no size is never asked. -/
def Layouts.shiftFields (L : Layouts) (w : Word) : ShiftFields :=
  let size := (shiftSize (fieldNat w 12 3)).getD .long
  { reg := L.regOf size w, count := L.countOf size w, reserved := L.shReserved size w }

/-- The table that lists a layout at every value of its operand bits. -/
def Layouts.toTable (L : Layouts) : LayoutTable where
  operate := graph fun v => { dst := L.dstOf v, src := L.srcOf v, reserved := L.opReserved v }
  shift := graph L.shiftFields
  flag := graph fun v => { flag := L.flagOf v, cond := L.condOf v }
  svc := graph L.svcCode

theorem decodeOperate_toTable (L : Layouts) (w : Word) :
    decodeOperate (Layouts.ofTable L.toTable) w = decodeOperate L w := by
  simp [decodeOperate, Layouts.ofTable, Layouts.toTable]

/-- The table's one entry for a shift word is at the size with which the decoder reads the word. -/
theorem decodeShift_toTable (L : Layouts) (w : Word) :
    decodeShift (Layouts.ofTable L.toTable) w = decodeShift L w := by
  unfold decodeShift
  cases h : shiftSize (fieldNat w 12 3) with
  | none => rfl
  | some size => simp [Layouts.ofTable, Layouts.toTable, Layouts.shiftFields, h]

theorem decodeBranchSpace_toTable (L : Layouts) (w : Word) :
    decodeBranchSpace (Layouts.ofTable L.toTable) w = decodeBranchSpace L w := by
  simp [decodeBranchSpace, Layouts.ofTable, Layouts.toTable]

/-- A layout and the table that lists it decode every word alike. -/
theorem decodeWith_toTable (L : Layouts) (w : Word) : decodeWith (Layouts.ofTable L.toTable) w = decodeWith L w := by
  simp only [decodeWith, decodeOperate_toTable, decodeShift_toTable, decodeBranchSpace_toTable]

/-- Settles O60: the table lists the layout's whole graph. -/
theorem everyLayoutIsATable : Obligations.EveryLayoutIsATable :=
  fun L => ⟨L.toTable, decodeWith_toTable L⟩

end Sys2Proof

/-! PROOFS of the statements that rest on 10_state.md: the fetch and the program counter (R36 to R40), and which
instruction reads and writes which part of the state (R22, R27, R30, R34). -/

/-! ## The program text and the program counter -/

namespace Sys2Proof.Machine

/-- A container has at least two embedded instructions (30_encoding.md R77). -/
theorem two_le_of_containerLen {n len : Nat} (h : containerLen n = some len) : 2 ≤ n := by
  match n with
  | 0 | 1 => cases h
  | n + 2 => omega

/-- A container's length is a multiple of 16 bits (30_encoding.md R78). -/
theorem containerLen_mod_sixteen {n len : Nat} (h : containerLen n = some len) : len % 16 = 0 := by
  unfold containerLen at h
  split at h <;> cases h <;> rfl

/-- An address has `AW` bits (10_state.md R36). -/
theorem wrapAddr_lt (p : Params) (a : Int) : wrapAddr p a < 2 ^ p.aw := by
  have h := Int.emod_lt_of_pos a (b := ((2 ^ p.aw : Nat) : Int)) (by positivity)
  unfold wrapAddr
  omega

theorem wrapAddr_natCast (p : Params) (a : Nat) : wrapAddr p a = a % 2 ^ p.aw :=
  rfl

/-- Wrapping around at an even modulus keeps an address even. -/
theorem wrapAddr_even {p : Params} {a : Int} (hp : 1 ≤ p.aw) (ha : 2 ∣ a) : 2 ∣ wrapAddr p a := by
  have hm : (2 : Int) ∣ (2 ^ p.aw : Nat) := by exact_mod_cast dvd_pow_self 2 (by omega)
  have h : a % (2 ^ p.aw : Nat) % 2 = a % 2 := Int.emod_emod_of_dvd a hm
  unfold wrapAddr
  omega

theorem State.container_of_lookup {s : State} {c : Container} (h : s.text.lookup s.pc.ca = some c) :
    s.container = c := by
  simp [State.container, h]

/-- Only a container of the text has a slot. -/
theorem State.lookup_of_lt_length {s : State} {n : Nat} (h : n < s.container.words.length) :
    s.text.lookup s.pc.ca = some s.container := by
  cases hl : s.text.lookup s.pc.ca with
  | none => simp [State.container, hl] at h
  | some c => rw [State.container_of_lookup hl]

/-- The container the program counter names ends a multiple of 16 bits after it starts. -/
theorem State.container_len_mod_sixteen {s : State} (hwf : s.text.wf) : s.container.len % 16 = 0 := by
  cases h : s.text.lookup s.pc.ca with
  | none => simp [State.container, h]
  | some c =>
    rw [State.container_of_lookup h]
    exact containerLen_mod_sixteen (hwf.2 _ (Memory.mem_of_lookup h))

theorem State.nextPC_of_lt {s : State} (h : s.pc.slot + 1 < s.container.words.length) :
    s.nextPC = { ca := s.pc.ca, slot := s.pc.slot + 1 } :=
  if_pos h

theorem State.nextPC_of_ge {s : State} (h : s.container.words.length ≤ s.pc.slot + 1) :
    s.nextPC = { ca := s.endAddr, slot := 0 } :=
  if_neg (Nat.not_lt.2 h)

theorem State.endAddr_even {s : State} (hwf : s.text.wf) (haw : 1 ≤ s.par.aw) (heven : 2 ∣ s.pc.ca) :
    2 ∣ s.endAddr := by
  have hlen := State.container_len_mod_sixteen hwf
  exact wrapAddr_even haw (by omega)

/-- A displacement counts multiples of 32 bits, so a target is as even as the end of the container (10_state.md R40). -/
theorem State.branchTarget_even {s : State} (hwf : s.text.wf) (haw : 1 ≤ s.par.aw) (heven : 2 ∣ s.pc.ca)
    (disp : BitVec 8) : 2 ∣ s.branchTarget disp := by
  have hend := State.endAddr_even hwf haw heven
  exact wrapAddr_even haw (by omega)

theorem State.nextPC_even {s : State} (hwf : s.text.wf) (haw : 1 ≤ s.par.aw) (heven : 2 ∣ s.pc.ca) :
    2 ∣ s.nextPC.ca := by
  unfold State.nextPC
  split
  · exact heven
  · exact State.endAddr_even hwf haw heven

/-- Slot 0 is a slot of every container. -/
theorem State.slotOk_of_slot_zero {s : State} (hwf : s.text.wf) (h : s.pc.slot = 0) : s.slotOk = true := by
  unfold State.slotOk
  split
  next c hc =>
    have hlen : 2 ≤ c.words.length := two_le_of_containerLen (hwf.2 _ (Memory.mem_of_lookup hc))
    exact decide_eq_true (by omega)
  next => exact decide_eq_true h

/-- Slot 0 of any address meets the invariant. -/
theorem State.Inv.at_slot_zero {s : State} (hs : s.Inv) {a : Nat} (ha : a < 2 ^ s.par.aw) :
    ({ s with pc := { ca := a, slot := 0 } } : State).Inv := by
  obtain ⟨hwf, haddr, -, -⟩ := hs
  exact ⟨hwf, haddr, ha, State.slotOk_of_slot_zero hwf rfl⟩

theorem State.Inv.jump {s : State} (hs : s.Inv) (disp : BitVec 8) : (s.jump disp).Inv :=
  hs.at_slot_zero (wrapAddr_lt s.par _)

theorem State.Inv.advance {s : State} (hs : s.Inv) : s.advance.Inv := by
  unfold State.advance
  rcases Nat.lt_or_ge (s.pc.slot + 1) s.container.words.length with h | h
  · rw [State.nextPC_of_lt h]
    obtain ⟨hwf, haddr, hca, -⟩ := hs
    refine ⟨hwf, haddr, hca, ?_⟩
    simpa [State.slotOk, State.lookup_of_lt_length h] using h
  · rw [State.nextPC_of_ge h]
    exact hs.at_slot_zero (wrapAddr_lt s.par _)

/-- The invariant speaks of the text, the parameters and the program counter alone. -/
theorem State.Inv.of_eq {s t : State} (hs : s.Inv) (htext : t.text = s.text) (hpar : t.par = s.par)
    (hpc : t.pc = s.pc) : t.Inv := by
  simpa only [State.Inv, State.slotOk, htext, hpar, hpc] using hs

theorem step_of_fetch_error {s : State} {r : Refusal} (h : s.fetch = .error r) : step s = .refused r := by
  simp [step, h]

theorem State.fetch_of_lookup_none {s : State} (h : s.text.lookup s.pc.ca = none) :
    s.fetch = .error (.leftScope s.pc.ca) := by
  simp [State.fetch, h]

theorem State.fetch_of_length_le {s : State} {c : Container} (h : s.text.lookup s.pc.ca = some c)
    (hslot : c.words.length ≤ s.pc.slot) : s.fetch = .error (.noSuchSlot s.pc.ca s.pc.slot) := by
  simp [State.fetch, h, List.getElem?_eq_none hslot]

/-- Settles O7: the fetch ends the step. -/
theorem fetchWithoutAContainerLeavesScope : Obligations.FetchWithoutAContainerLeavesScope :=
  fun _ => ⟨fun h => step_of_fetch_error (State.fetch_of_lookup_none h),
    fun _ h hslot => step_of_fetch_error (State.fetch_of_length_le h hslot)⟩

/-- Settles O10: the text is empty and the program counter names slot 0. -/
theorem resetMeetsTheInvariant : Obligations.ResetMeetsTheInvariant :=
  ⟨State.reset_text_wf, nofun, by decide, rfl⟩

/-- Settles O13, by the two cases of `next(pc)`. -/
theorem sequentialAdvance : Obligations.SequentialAdvance := by
  intro s c hc
  obtain rfl := State.container_of_lookup hc
  refine ⟨fun h => ?_, fun h => ?_⟩
  · rw [State.advance, State.nextPC_of_lt h]
  · rw [State.advance, State.nextPC_of_ge h]
    rfl

end Sys2Proof.Machine

/-! ## Everything an instruction can do -/

namespace Sys2Proof.Machine

/-- What an instruction that answers `t` has done to `s`, with the kinds of instruction that can do it. -/
inductive Effect (i : Instr) (s t : State) : Prop where
  | intRegs (ds : List Nat) (hi : i.form.namesX = true) (h : OnlyX ds s t)
  | floatRegs (ds : List Nat) (hi : i.form.namesF = true) (h : OnlyF ds s t)
  | codes (hi : i.isCompare = true) (h : OnlyCC s t)
  | flag (k : Nat) (hi : i.form.namesFlag = true) (h : OnlyFlag k s t)
  | sequence (h : t = s.advance)
  | taken (disp : BitVec 8) (hi : i.form = .branch disp) (h : t = s.jump disp)

/-- What holds of the one state an operation can answer holds of its answer. -/
theorem Runs.next_of {ok : Prop} {t u : State} {k : Fault} {o : Result} {P : State → Prop} (h : Runs ok t k o)
    (ht : P t) (hu : o = .next u) : P u :=
  (h.of_next hu).2 ▸ ht

/-- What holds of the one state a division can answer holds of its answer. -/
theorem RunsDivision.next_of {regs zero ovf : Prop} {t u : State} {w : Word} {o : Result} {P : State → Prop}
    (h : RunsDivision regs zero ovf t w o) (ht : P t) (hu : o = .next u) : P u := by
  obtain ⟨-, -, -, rfl⟩ := h.of_next hu
  exact ht

theorem shiftReg_onlyX {n : Nat} {f : BitVec n → Nat → BitVec n} {reg cnt : Nat} {s t : State}
    (h : shiftReg n f reg cnt s = .next t) : OnlyX [reg] s t := by
  obtain ⟨hreserved, hruns⟩ := shiftReg_runs n f reg cnt s
  rcases Nat.lt_or_ge cnt n with hcnt | hcnt
  · exact (hruns hcnt).next_of (OnlyX.one s reg _) h
  · rw [hreserved hcnt] at h
    cases h

theorem branchOn_next {cn : BitVec 5} {disp : BitVec 8} {s t : State} (h : branchOn cn disp s = .next t) :
    t = s.advance ∨ t = s.jump disp := by
  obtain ⟨-, h'⟩ | ⟨-, h'⟩ := branchOn_cases cn disp s <;> rw [h'] at h <;> cases h
  · exact .inr rfl
  · exact .inl rfl

/-- An instruction that answers a next state has one of the effects, by the shape of each instruction. -/
theorem exec_effect (i : Instr) (s t : State) : exec i s = .next t → Effect i s t := by
  cases i with dsimp only [exec]
  | cb rd rs | ch rd rs | c rd rs | cl rd rs => exact (intCompare_runs _ rd rs s).next_of (.codes rfl (.intro s _))
  | cm rd rs | cf rd rs | cd rd rs | cq rd rs => exact (floatCompare_runs _ rd rs s).next_of (.codes rfl (.intro s _))
  | lb rd rs | lh rd rs | l rd rs | ll rd rs
  | stb rd rs | sth rd rs | st rd rs | stl rd rs
  | ulb rd rs | ulh rd rs | ul rd rs
  | ib rd rs | ih rd rs | i rd rs
  | ab rd rs | ah rd rs | a rd rs | al rd rs
  | sb rd rs | sh rd rs | s rd rs | sl rd rs
  | mb rd rs | mh rd rs | m rd rs | ml rd rs
  | xb rd rs | xh rd rs | x rd rs | xl rd rs
  | nb rd rs | nh rd rs | n rd rs | nl rd rs
  | ob rd rs | oh rd rs | o rd rs | ol rd rs =>
    exact (intResult_runs _ _ _ rd rs s).next_of (.intRegs _ rfl (.one s rd _))
  | swb rd rs | swh rd rs | sw rd rs | swl rd rs =>
    exact (intSwap_runs _ rd rs s).next_of (.intRegs _ rfl (.two s rd rs _ _))
  | db rd rs | dh rd rs | d rd rs | dl rd rs =>
    exact (intDivide_runs _ rd rs s).next_of (.intRegs _ rfl (.one s rd _))
  | dub rd rs | duh rd rs | du rd rs | dul rd rs =>
    exact (intDivideUnsigned_runs _ rd rs s).next_of (.intRegs _ rfl (.one s rd _))
  | meh rd rs | me rd rs => exact (mulExtend_runs _ rd rs s).next_of (.intRegs _ rfl (.one s rd _))
  | mel rd rs => exact (mulExtendLong_runs rd rs s).next_of (.intRegs _ rfl (.two s rd (rd + 1) _ _))
  | deh rd rs | de rd rs => exact (divExtend_runs _ rd rs s).next_of (.intRegs _ rfl (.two s rd (rd + 1) _ _))
  | deuh rd rs | deu rd rs =>
    exact (divExtendUnsigned_runs _ rd rs s).next_of (.intRegs _ rfl (.two s rd (rd + 1) _ _))
  | del rd rs => exact (divExtendLong_runs rd rs s).next_of (.intRegs _ rfl (.three s rd (rd + 1) (rd + 2) _ _ _))
  | deul rd rs =>
    exact (divExtendUnsignedLong_runs rd rs s).next_of (.intRegs _ rfl (.three s rd (rd + 1) (rd + 2) _ _ _))
  | lm rd rs | lf rd rs | ld rd rs | lq rd rs
  | stm rd rs | stf rd rs | std rd rs | stq rd rs
  | am rd rs | af rd rs | ad rd rs | aq rd rs
  | sm rd rs | sf rd rs | sd rd rs | sq rd rs
  | mm rd rs | mf rd rs | md rd rs | mq rd rs
  | dm rd rs | df rd rs | dd rd rs | dq rd rs =>
    exact (floatResult_runs _ rd rs s).next_of (.floatRegs _ rfl (.one s rd _))
  | swm rd rs | swf rd rs | swd rd rs | swq rd rs =>
    exact (floatSwapRegs_runs _ rd rs s).next_of (.floatRegs _ rfl (.two s rd rs _ _))
  | lsllc reg cnt | lsrlc reg cnt | rllc reg cnt | asrlc reg cnt
  | lslc reg cnt | lsrc reg cnt | rlc reg cnt | asrc reg cnt
  | lslhc reg cnt | lsrhc reg cnt | rlhc reg cnt | asrhc reg cnt
  | lslbc reg cnt | lsrbc reg cnt | rlbc reg cnt | asrbc reg cnt =>
    exact fun h => .intRegs _ rfl (shiftReg_onlyX h)
  | nop disp =>
    rintro ⟨⟩
    exact .sequence rfl
  | blr disp | ber disp | bler disp | bhr disp | bner disp | bher disp | b disp
  | bm disp | bz disp | bmz disp | bp disp | bnz disp | bpz disp | bnv disp
  | bl disp | be disp | ble disp | bh disp | bne disp | bhe disp | bnc disp | bc disp | bv disp =>
    exact fun h => (branchOn_next h).elim .sequence (.taken disp rfl)
  | sfc k q | cfc k q | ctf k q => exact (flagOn_runs _ k q s).next_of (.flag k rfl (.intro s k _))
  | svc code => nofun

/-- The text is constant (20_memory.md R61). -/
theorem Effect.text_eq {i : Instr} {s t : State} (h : Effect i s t) : t.text = s.text := by
  cases h with
  | intRegs _ _ h | floatRegs _ _ h | codes _ h | flag _ _ h => exact h.text
  | sequence h | taken _ _ h => subst h; rfl

/-- The parameters are fixed (00_scope.md R8). -/
theorem Effect.par_eq {i : Instr} {s t : State} (h : Effect i s t) : t.par = s.par := by
  cases h with
  | intRegs _ _ h | floatRegs _ _ h | codes _ h | flag _ _ h => exact h.par
  | sequence h | taken _ _ h => subst h; rfl

/-- Execution goes on in sequence or at a branch's target (10_state.md R39, 43_branch.md R284). -/
theorem Effect.pc_cases {i : Instr} {s t : State} (h : Effect i s t) :
    t.pc = s.advance.pc ∨ ∃ disp, t.pc = (s.jump disp).pc := by
  cases h with
  | intRegs _ _ h | floatRegs _ _ h | codes _ h | flag _ _ h => exact .inl h.pc
  | sequence h => exact .inl (h ▸ rfl)
  | taken disp _ h => exact .inr ⟨disp, h ▸ rfl⟩

theorem Effect.cc_eq {i : Instr} {s t : State} (h : Effect i s t) (hi : i.isCompare = false) : t.cc = s.cc := by
  cases h with
  | intRegs _ _ h | floatRegs _ _ h | flag _ _ h => exact h.cc
  | codes hc _ => exact absurd (hi.symm.trans hc) nofun
  | sequence h | taken _ _ h => subst h; rfl

theorem Effect.pf_eq {i : Instr} {s t : State} (h : Effect i s t) (hi : i.form.namesFlag = false) :
    t.pf = s.pf := by
  cases h with
  | intRegs _ _ h | floatRegs _ _ h | codes _ h => exact h.pf
  | flag _ hf _ => exact absurd (hi.symm.trans hf) nofun
  | sequence h | taken _ _ h => subst h; rfl

/-- A step that answers a next state has run an instruction. -/
theorem step_effect {s t : State} (h : step s = .next t) : ∃ i, Effect i s t := by
  obtain ⟨_, _, h'⟩ | ⟨_, _, _, h'⟩ | ⟨_, i, _, _, h'⟩ := step_cases s <;> rw [h'] at h
  · cases h
  · cases h
  · exact ⟨i, exec_effect i s t h⟩

/-- Settles O9: an instruction leaves the text and the parameters, and both places it can go on at meet the
invariant. -/
theorem stepKeepsTheInvariant : Obligations.StepKeepsTheInvariant := by
  intro s t hs hst
  obtain ⟨i, h⟩ := step_effect hst
  obtain hpc | ⟨disp, hpc⟩ := h.pc_cases
  · exact hs.advance.of_eq h.text_eq h.par_eq hpc
  · exact (hs.jump disp).of_eq h.text_eq h.par_eq hpc

/-- Settles O12: both places an instruction can go on at are even. -/
theorem stepKeepsEvenAddresses : Obligations.StepKeepsEvenAddresses := by
  intro s t hwf haw heven hst
  obtain ⟨i, h⟩ := step_effect hst
  have heven := Nat.dvd_of_mod_eq_zero heven
  refine ⟨h.text_eq ▸ hwf, h.par_eq ▸ haw, Nat.mod_eq_zero_of_dvd ?_⟩
  obtain hpc | ⟨disp, hpc⟩ := h.pc_cases <;> rw [hpc]
  · exact State.nextPC_even hwf haw heven
  · exact State.branchTarget_even hwf haw heven disp

/-- Settles O17: of the effects, only COMPARE's writes the condition codes. -/
theorem onlyCompareWritesConditionCodes : Obligations.OnlyCompareWritesConditionCodes :=
  fun i s t hi hst => (exec_effect i s t hst).cc_eq hi

end Sys2Proof.Machine

/-! ## Changes of the state that an instruction does not see -/

namespace Sys2Proof.Machine

@[simp] theorem mapNext_next (g : State → State) (t : State) : mapNext g (.next t) = .next (g t) :=
  rfl

@[simp] theorem mapNext_raise (g : State → State) (k : Fault) : mapNext g (raise k) = raise k :=
  rfl

/-- Two changes of the next state, one after the other. -/
theorem mapNext_mapNext (g h : State → State) (o : Result) : mapNext g (mapNext h o) = mapNext (g ∘ h) o := by
  cases o <;> rfl

/-- A change of the state that leaves alone what every instruction may read (the condition codes, the program counter,
the text, the parameters, the draws) and commutes with what is written there. -/
structure SparesControl (g : State → State) : Prop where
  cc : ∀ s, (g s).cc = s.cc
  pc : ∀ s, (g s).pc = s.pc
  text : ∀ s, (g s).text = s.text
  par : ∀ s, (g s).par = s.par
  draws : ∀ s, (g s).draws = s.draws
  writeCC : ∀ s cc, (g s).writeCC cc = g (s.writeCC cc)
  setPC : ∀ (s : State) pc, { g s with pc := pc } = g { s with pc := pc }

/-- A change of the state that leaves the integer registers alone and commutes with their writes. -/
structure SparesX (g : State → State) : Prop where
  x : ∀ s, (g s).x = s.x
  writeX : ∀ s n v, (g s).writeX n v = g (s.writeX n v)

/-- A change of the state that leaves the floating-point registers alone and commutes with their writes. -/
structure SparesF (g : State → State) : Prop where
  f : ∀ s, (g s).f = s.f
  writeF : ∀ s n v, (g s).writeF n v = g (s.writeF n v)

/-- A change of the state that leaves the flags alone and commutes with their writes. -/
structure SparesFlags (g : State → State) : Prop where
  pf : ∀ s, (g s).pf = s.pf
  writeFlag : ∀ s k b, (g s).writeFlag k b = g (s.writeFlag k b)

section
variable {g : State → State}

theorem SparesControl.word (hg : SparesControl g) (s : State) : (g s).word = s.word := by
  simp only [State.word, State.fetch, hg.text, hg.pc]

theorem SparesControl.container (hg : SparesControl g) (s : State) : (g s).container = s.container := by
  simp only [State.container, hg.text, hg.pc]

theorem SparesControl.endAddr (hg : SparesControl g) (s : State) : (g s).endAddr = s.endAddr := by
  simp only [State.endAddr, hg.container, hg.pc, hg.par]

theorem SparesControl.nextPC (hg : SparesControl g) (s : State) : (g s).nextPC = s.nextPC := by
  simp only [State.nextPC, hg.container, hg.endAddr, hg.pc]

theorem SparesControl.branchTarget (hg : SparesControl g) (s : State) (disp : BitVec 8) :
    (g s).branchTarget disp = s.branchTarget disp := by
  simp only [State.branchTarget, hg.endAddr, hg.par]

theorem SparesControl.advance (hg : SparesControl g) (s : State) : (g s).advance = g s.advance := by
  rw [State.advance, hg.nextPC]
  exact hg.setPC s _

theorem SparesControl.jump (hg : SparesControl g) (disp : BitVec 8) (s : State) :
    (g s).jump disp = g (s.jump disp) := by
  rw [State.jump, hg.branchTarget]
  exact hg.setPC s _

/-- The register checks see the word an outcome records and no other part of the state. -/
theorem SparesControl.checkRegs (hg : SparesControl g) (s : State) (size : Nat) (regs : List Nat) (even : Bool)
    (k : Result) : checkRegs (g s) size regs even k = checkRegs s size regs even k := by
  simp only [Machine.checkRegs, hg.word]

theorem SparesX.readX (hx : SparesX g) (s : State) (n : Nat) : (g s).readX n = s.readX n := by
  simp only [State.readX, hx.x]

theorem SparesX.readPair (hx : SparesX g) (s : State) (n : Nat) : (g s).readPair n = s.readPair n := by
  simp only [State.readPair, hx.readX]

theorem SparesX.nireg (hx : SparesX g) (s : State) : (g s).nireg = s.nireg := by
  simp only [State.nireg, hx.x]

theorem SparesF.readF (hf : SparesF g) (s : State) (n : Nat) : (g s).readF n = s.readF n := by
  simp only [State.readF, hf.f]

theorem SparesF.nfreg (hf : SparesF g) (s : State) : (g s).nfreg = s.nfreg := by
  simp only [State.nfreg, hf.f]

theorem SparesFlags.readFlag (hp : SparesFlags g) (s : State) (k : Nat) : (g s).readFlag k = s.readFlag k := by
  simp only [State.readFlag, hp.pf]

theorem SparesFlags.nflags (hp : SparesFlags g) (s : State) : (g s).nflags = s.nflags := by
  simp only [State.nflags, hp.pf]

/-! ### The shared shapes of the meanings commute with a change outside what they name -/

/-- One integer result; its extension `e` is fixed or a parameter's. -/
theorem intResult_spares (hg : SparesControl g) (hx : SparesX g) {n : Nat} (e : Params → Ext)
    (f : BitVec n → BitVec n → BitVec n) (rd rs : Nat) (s : State) :
    intResult n (e (g s).par) f rd rs (g s) = mapNext g (intResult n (e s.par) f rd rs s) := by
  simp only [intResult, mapNext_checkRegs, mapNext_next, hg.checkRegs, hg.advance, hg.par, hx.nireg, hx.readX,
    hx.writeX]

theorem intSwap_spares (hg : SparesControl g) (hx : SparesX g) (n rd rs : Nat) (s : State) :
    intSwap n rd rs (g s) = mapNext g (intSwap n rd rs s) := by
  simp only [intSwap, mapNext_checkRegs, mapNext_next, hg.checkRegs, hg.advance, hg.par, hx.nireg, hx.readX, hx.writeX]

theorem intCompare_spares (hg : SparesControl g) (hx : SparesX g) (n rd rs : Nat) (s : State) :
    intCompare n rd rs (g s) = mapNext g (intCompare n rd rs s) := by
  simp only [intCompare, mapNext_checkRegs, mapNext_next, hg.checkRegs, hg.advance, hg.draws, hg.writeCC, hx.nireg,
    hx.readX]

theorem intDivide_spares (hg : SparesControl g) (hx : SparesX g) (n rd rs : Nat) (s : State) :
    intDivide n rd rs (g s) = mapNext g (intDivide n rd rs s) := by
  simp only [intDivide, mapNext_checkRegs, mapNext_ite, mapNext_next, mapNext_raise, hg.checkRegs, hg.advance, hg.par,
    hg.word, hx.nireg, hx.readX, hx.writeX]

theorem intDivideUnsigned_spares (hg : SparesControl g) (hx : SparesX g) (n rd rs : Nat) (s : State) :
    intDivideUnsigned n rd rs (g s) = mapNext g (intDivideUnsigned n rd rs s) := by
  simp only [intDivideUnsigned, mapNext_checkRegs, mapNext_ite, mapNext_next, mapNext_raise, hg.checkRegs, hg.advance,
    hg.par, hg.word, hx.nireg, hx.readX, hx.writeX]

theorem mulExtend_spares (hg : SparesControl g) (hx : SparesX g) (n rd rs : Nat) (s : State) :
    mulExtend n rd rs (g s) = mapNext g (mulExtend n rd rs s) := by
  simp only [mulExtend, mapNext_checkRegs, mapNext_next, hg.checkRegs, hg.advance, hx.nireg, hx.readX, hx.writeX]

theorem mulExtendLong_spares (hg : SparesControl g) (hx : SparesX g) (rd rs : Nat) (s : State) :
    mulExtendLong rd rs (g s) = mapNext g (mulExtendLong rd rs s) := by
  simp only [mulExtendLong, mapNext_checkRegs, mapNext_next, hg.checkRegs, hg.advance, hx.nireg, hx.readX, hx.writeX]

theorem divExtend_spares (hg : SparesControl g) (hx : SparesX g) (n rd rs : Nat) (s : State) :
    divExtend n rd rs (g s) = mapNext g (divExtend n rd rs s) := by
  simp only [divExtend, mapNext_checkRegs, mapNext_ite, mapNext_next, mapNext_raise, hg.checkRegs, hg.advance, hg.word,
    hx.nireg, hx.readX, hx.writeX]

theorem divExtendLong_spares (hg : SparesControl g) (hx : SparesX g) (rd rs : Nat) (s : State) :
    divExtendLong rd rs (g s) = mapNext g (divExtendLong rd rs s) := by
  simp only [divExtendLong, mapNext_checkRegs, mapNext_ite, mapNext_next, mapNext_raise, hg.checkRegs, hg.advance,
    hg.word, hx.nireg, hx.readX, hx.readPair, hx.writeX]

theorem divExtendUnsigned_spares (hg : SparesControl g) (hx : SparesX g) (n rd rs : Nat) (s : State) :
    divExtendUnsigned n rd rs (g s) = mapNext g (divExtendUnsigned n rd rs s) := by
  simp only [divExtendUnsigned, mapNext_checkRegs, mapNext_ite, mapNext_next, mapNext_raise, hg.checkRegs, hg.advance,
    hg.par, hg.word, hx.nireg, hx.readX, hx.writeX]

theorem divExtendUnsignedLong_spares (hg : SparesControl g) (hx : SparesX g) (rd rs : Nat) (s : State) :
    divExtendUnsignedLong rd rs (g s) = mapNext g (divExtendUnsignedLong rd rs s) := by
  simp only [divExtendUnsignedLong, mapNext_checkRegs, mapNext_ite, mapNext_next, mapNext_raise, hg.checkRegs,
    hg.advance, hg.word, hx.nireg, hx.readX, hx.readPair, hx.writeX]

theorem shiftReg_spares (hg : SparesControl g) (hx : SparesX g) {n : Nat} (f : BitVec n → Nat → BitVec n)
    (reg cnt : Nat) (s : State) : shiftReg n f reg cnt (g s) = mapNext g (shiftReg n f reg cnt s) := by
  simp only [shiftReg, mapNext_checkRegs, mapNext_ite, mapNext_next, mapNext_raise, hg.checkRegs, hg.advance, hg.par,
    hg.word, hx.nireg, hx.readX, hx.writeX]

/-- One floating-point result; its operation `f` may ask the parameters (`DIV_ORDER`, the Q identities). -/
theorem floatResult_spares (hg : SparesControl g) (hf : SparesF g) (f : Params → FVal → FVal → FVal) (rd rs : Nat)
    (s : State) : floatResult (f (g s).par) rd rs (g s) = mapNext g (floatResult (f s.par) rd rs s) := by
  simp only [floatResult, mapNext_checkRegs, mapNext_next, hg.checkRegs, hg.advance, hg.par, hf.nfreg, hf.readF,
    hf.writeF]

theorem floatSwapRegs_spares (hg : SparesControl g) (hf : SparesF g) (t : FType) (rd rs : Nat) (s : State) :
    floatSwapRegs t rd rs (g s) = mapNext g (floatSwapRegs t rd rs s) := by
  simp only [floatSwapRegs, mapNext_checkRegs, mapNext_next, hg.checkRegs, hg.advance, hg.par, hf.nfreg, hf.readF,
    hf.writeF]

theorem floatCompare_spares (hg : SparesControl g) (hf : SparesF g) (t : FType) (rd rs : Nat) (s : State) :
    floatCompare t rd rs (g s) = mapNext g (floatCompare t rd rs s) := by
  simp only [floatCompare, mapNext_checkRegs, mapNext_next, hg.checkRegs, hg.advance, hg.draws, hg.writeCC, hf.nfreg,
    hf.readF]

theorem branchOn_spares (hg : SparesControl g) (cn : BitVec 5) (disp : BitVec 8) (s : State) :
    branchOn cn disp (g s) = mapNext g (branchOn cn disp s) := by
  simp only [branchOn, mapNext_next, hg.cc, hg.jump, hg.advance, apply_ite g]

theorem flagOn_spares (hg : SparesControl g) (hp : SparesFlags g) (f : Bool → Bool → Bool) (k : Nat) (q : BitVec 5)
    (s : State) : flagOn f k q (g s) = mapNext g (flagOn f k q s) := by
  simp only [flagOn, mapNext_ite, mapNext_next, mapNext_raise, hg.cc, hg.word, hg.advance, hp.nflags, hp.readFlag,
    hp.writeFlag]

/-- An instruction does not see a change outside the control part of the state and the files its form names, and leaves
it as it is: by the shape of each instruction. -/
theorem exec_spares (hg : SparesControl g) (i : Instr) (s : State) (hx : i.form.namesX = true → SparesX g)
    (hf : i.form.namesF = true → SparesF g) (hp : i.form.namesFlag = true → SparesFlags g) :
    exec i (g s) = mapNext g (exec i s) := by
  cases i with dsimp only [exec]
  | cb rd rs | ch rd rs | c rd rs | cl rd rs => exact intCompare_spares hg (hx rfl) _ rd rs s
  | lb rd rs | lh rd rs | l rd rs | ll rd rs
  | mb rd rs | mh rd rs | m rd rs | ml rd rs => exact intResult_spares hg (hx rfl) (fun _ => .sign) _ rd rs s
  | ulb rd rs | ulh rd rs | ul rd rs => exact intResult_spares hg (hx rfl) (fun _ => .zero) _ rd rs s
  | ib rd rs | ih rd rs | i rd rs => exact intResult_spares hg (hx rfl) (fun _ => .unchanged) _ rd rs s
  | stb rd rs | sth rd rs | st rd rs | stl rd rs =>
    exact intResult_spares hg (hx rfl) (fun p => upperExt p.stUpper) _ rd rs s
  | ab rd rs | ah rd rs | a rd rs | al rd rs
  | sb rd rs | sh rd rs | s rd rs | sl rd rs
  | xb rd rs | xh rd rs | x rd rs | xl rd rs
  | nb rd rs | nh rd rs | n rd rs | nl rd rs
  | ob rd rs | oh rd rs | o rd rs | ol rd rs => exact intResult_spares hg (hx rfl) Params.narrowExt _ rd rs s
  | swb rd rs | swh rd rs | sw rd rs | swl rd rs => exact intSwap_spares hg (hx rfl) _ rd rs s
  | db rd rs | dh rd rs | d rd rs | dl rd rs => exact intDivide_spares hg (hx rfl) _ rd rs s
  | dub rd rs | duh rd rs | du rd rs | dul rd rs => exact intDivideUnsigned_spares hg (hx rfl) _ rd rs s
  | meh rd rs | me rd rs => exact mulExtend_spares hg (hx rfl) _ rd rs s
  | mel rd rs => exact mulExtendLong_spares hg (hx rfl) rd rs s
  | deh rd rs | de rd rs => exact divExtend_spares hg (hx rfl) _ rd rs s
  | deuh rd rs | deu rd rs => exact divExtendUnsigned_spares hg (hx rfl) _ rd rs s
  | del rd rs => exact divExtendLong_spares hg (hx rfl) rd rs s
  | deul rd rs => exact divExtendUnsignedLong_spares hg (hx rfl) rd rs s
  | lsllc reg cnt | lsrlc reg cnt | rllc reg cnt | asrlc reg cnt
  | lslc reg cnt | lsrc reg cnt | rlc reg cnt | asrc reg cnt
  | lslhc reg cnt | lsrhc reg cnt | rlhc reg cnt | asrhc reg cnt
  | lslbc reg cnt | lsrbc reg cnt | rlbc reg cnt | asrbc reg cnt => exact shiftReg_spares hg (hx rfl) _ reg cnt s
  | swm rd rs | swf rd rs | swd rd rs | swq rd rs => exact floatSwapRegs_spares hg (hf rfl) _ rd rs s
  | cm rd rs | cf rd rs | cd rd rs | cq rd rs => exact floatCompare_spares hg (hf rfl) _ rd rs s
  | lm rd rs => exact floatResult_spares hg (hf rfl) (fun p _ b => floatLoad p .medium b) rd rs s
  | lf rd rs => exact floatResult_spares hg (hf rfl) (fun p _ b => floatLoad p .floating b) rd rs s
  | ld rd rs => exact floatResult_spares hg (hf rfl) (fun p _ b => floatLoad p .double b) rd rs s
  | lq rd rs => exact floatResult_spares hg (hf rfl) (fun p _ b => floatLoad p .quad b) rd rs s
  | stm rd rs | stf rd rs | std rd rs | stq rd rs =>
    exact floatResult_spares hg (hf rfl) (fun p a b => floatStore p _ a b) rd rs s
  | am rd rs | af rd rs | ad rd rs | aq rd rs
  | sm rd rs | sf rd rs | sd rd rs | sq rd rs
  | mm rd rs | mf rd rs | md rd rs | mq rd rs => exact floatResult_spares hg (hf rfl) (fun _ => _) rd rs s
  | dm rd rs | df rd rs | dd rd rs | dq rd rs =>
    exact floatResult_spares hg (hf rfl) (fun p a b => floatDiv p _ a b) rd rs s
  | nop disp => exact congrArg Host.Outcome.next (hg.advance s)
  | blr disp | ber disp | bler disp | bhr disp | bner disp | bher disp | b disp
  | bm disp | bz disp | bmz disp | bp disp | bnz disp | bpz disp | bnv disp
  | bl disp | be disp | ble disp | bh disp | bne disp | bhe disp | bnc disp | bc disp | bv disp =>
    exact branchOn_spares hg _ disp s
  | sfc k q | cfc k q | ctf k q => exact flagOn_spares hg (hp rfl) _ k q s
  | svc code => rfl

end

/-! ### One field replaced -/

theorem sparesControl_set_x (xs : List XVal) : SparesControl fun t => { t with x := xs } :=
  ⟨fun _ => rfl, fun _ => rfl, fun _ => rfl, fun _ => rfl, fun _ => rfl, fun _ _ => rfl, fun _ _ => rfl⟩

theorem sparesF_set_x (xs : List XVal) : SparesF fun t => { t with x := xs } :=
  ⟨fun _ => rfl, fun _ _ _ => rfl⟩

theorem sparesFlags_set_x (xs : List XVal) : SparesFlags fun t => { t with x := xs } :=
  ⟨fun _ => rfl, fun _ _ _ => rfl⟩

theorem sparesControl_set_f (fs : List FVal) : SparesControl fun t => { t with f := fs } :=
  ⟨fun _ => rfl, fun _ => rfl, fun _ => rfl, fun _ => rfl, fun _ => rfl, fun _ _ => rfl, fun _ _ => rfl⟩

theorem sparesX_set_f (fs : List FVal) : SparesX fun t => { t with f := fs } :=
  ⟨fun _ => rfl, fun _ _ _ => rfl⟩

theorem sparesFlags_set_f (fs : List FVal) : SparesFlags fun t => { t with f := fs } :=
  ⟨fun _ => rfl, fun _ _ _ => rfl⟩

theorem sparesControl_set_pf (p : List Bool) : SparesControl fun t => { t with pf := p } :=
  ⟨fun _ => rfl, fun _ => rfl, fun _ => rfl, fun _ => rfl, fun _ => rfl, fun _ _ => rfl, fun _ _ => rfl⟩

theorem sparesX_set_pf (p : List Bool) : SparesX fun t => { t with pf := p } :=
  ⟨fun _ => rfl, fun _ _ _ => rfl⟩

theorem sparesF_set_pf (p : List Bool) : SparesF fun t => { t with pf := p } :=
  ⟨fun _ => rfl, fun _ _ _ => rfl⟩

/-- Settles O18: an instruction does not see a file its form does not name. -/
theorem registerFilesAreSeparate : Obligations.RegisterFilesAreSeparate :=
  ⟨fun i s xs hi => exec_spares (sparesControl_set_x xs) i s (fun h => absurd (hi.symm.trans h) nofun)
      (fun _ => sparesF_set_x xs) fun _ => sparesFlags_set_x xs,
    fun i s fs hi => exec_spares (sparesControl_set_f fs) i s (fun _ => sparesX_set_f fs)
      (fun h => absurd (hi.symm.trans h) nofun) fun _ => sparesFlags_set_f fs⟩

/-- A flag instruction's checks, and everything it does but to the flags, are the same for any values of the flags. -/
theorem flagOn_forget_flags (f : Bool → Bool → Bool) (k : Nat) (q : BitVec 5) (s : State) (p : List Bool)
    (hp : p.length = s.pf.length) :
    mapNext (fun t => { t with pf := [] }) (flagOn f k q { s with pf := p }) =
      mapNext (fun t => { t with pf := [] }) (flagOn f k q s) := by
  have h := flagOn_runs f k q s
  have h' := flagOn_runs f k q { s with pf := p }
  rw [show ({ s with pf := p } : State).nflags = s.nflags from hp] at h'
  by_cases hok : listedCond q = true ∧ k < s.nflags
  · rw [h.1 hok, h'.1 hok]
    rfl
  · rw [h.2 hok, h'.2 hok]
    rfl

/-- The instructions that name a flag are those of one shape. -/
theorem exec_flag {i : Instr} (hi : i.form.namesFlag = true) : ∃ f k q, ∀ s, exec i s = flagOn f k q s := by
  cases i with dsimp only [exec]
  | sfc k q | cfc k q | ctf k q => exact ⟨_, k, q, fun _ => rfl⟩
  | _ => cases hi

/-- Settles O19: a flag instruction writes flags alone, and no other sees them. -/
theorem flagsAreWriteOnly : Obligations.FlagsAreWriteOnly := by
  refine ⟨fun i s p hp => ?_, fun i s t hi hst => (exec_effect i s t hst).pf_eq hi⟩
  by_cases hi : i.form.namesFlag = true
  · obtain ⟨f, k, q, h⟩ := exec_flag hi
    rw [h, h]
    exact flagOn_forget_flags f k q s p hp
  · rw [exec_spares (sparesControl_set_pf p) i s (fun _ => sparesX_set_pf p) (fun _ => sparesF_set_pf p)
      (absurd · hi), mapNext_mapNext]
    rfl

end Sys2Proof.Machine

/-! PROOFS of the statements that rest on 20_memory.md: what is constant in a run (R61). -/

/-! ## What no step changes -/

namespace Sys2Proof.Machine

/-- No instruction changes the mode (10_state.md R41). -/
theorem Effect.mode_eq {i : Instr} {s t : State} (h : Effect i s t) : t.mode = s.mode := by
  cases h with
  | intRegs _ _ h | floatRegs _ _ h | codes _ h | flag _ _ h => exact h.mode
  | sequence h | taken _ _ h => subst h; rfl

/-- `NIREG` is fixed (00_scope.md R8): a register write keeps the length of the file. -/
theorem Effect.nireg_eq {i : Instr} {s t : State} (h : Effect i s t) : t.nireg = s.nireg := by
  cases h with
  | intRegs _ _ h => exact h.nireg
  | floatRegs _ _ h | codes _ h | flag _ _ h => exact congrArg List.length h.x
  | sequence h | taken _ _ h => subst h; rfl

/-- `NFREG` is fixed (00_scope.md R8). -/
theorem Effect.nfreg_eq {i : Instr} {s t : State} (h : Effect i s t) : t.nfreg = s.nfreg := by
  cases h with
  | floatRegs _ _ h => exact h.nfreg
  | intRegs _ _ h | codes _ h | flag _ _ h => exact congrArg List.length h.f
  | sequence h | taken _ _ h => subst h; rfl

/-- `NFLAGS` is fixed (00_scope.md R8). -/
theorem Effect.nflags_eq {i : Instr} {s t : State} (h : Effect i s t) : t.nflags = s.nflags := by
  cases h with
  | flag _ _ h => exact h.nflags
  | intRegs _ _ h | floatRegs _ _ h | codes _ h => exact congrArg List.length h.pf
  | sequence h | taken _ _ h => subst h; rfl

/-- Settles O11: a step that answers a next state has run an instruction, and none of the effects touches these. -/
theorem stepKeepsTextModeAndSizes : Obligations.StepKeepsTextModeAndSizes := by
  intro s t hst
  obtain ⟨i, h⟩ := step_effect hst
  exact ⟨h.text_eq, h.mode_eq, h.par_eq, h.nireg_eq, h.nfreg_eq, h.nflags_eq⟩

end Sys2Proof.Machine

/-! PROOFS of the statements that rest on 30_encoding.md: the decoder and the encoder (R70 to R98) and the container
lengths (R76 to R78). -/

/-! ## The fields of a word -/

namespace Sys2Proof

theorem fieldNat_eq (w : Word) (lo n : Nat) : fieldNat w lo n = w.toNat / 2 ^ lo % 2 ^ n := by
  rw [fieldNat, BitVec.extractLsb'_toNat, Nat.shiftRight_eq_div_pow]

/-- A bit string written out before another is the number in the higher digits. -/
theorem toNat_append_eq_add {m n : Nat} (x : BitVec m) (y : BitVec n) : (x ++ y).toNat = x.toNat * 2 ^ n + y.toNat := by
  rw [BitVec.toNat_append, ← Nat.shiftLeft_add_eq_or_of_lt y.isLt, Nat.shiftLeft_eq]

theorem getLsbD_eq_false_iff (w : Word) (k : Nat) : w.getLsbD k = false ↔ w.toNat / 2 ^ k % 2 = 0 := by
  rw [BitVec.getLsbD, Nat.testBit_eq_decide_div_mod_eq, decide_eq_false_iff_not]
  omega

theorem toNat_operateWord (op rd rs : Nat) :
    (operateWord op rd rs).toNat = op % 128 * 2048 + rd % 8 * 256 + rs % 8 * 32 := by
  simp only [operateWord, toNat_append_eq_add, BitVec.toNat_ofNat]
  omega

theorem toNat_shiftWord (pre r kind c : Nat) :
    (shiftWord pre r kind c).toNat = pre % 64 * 4096 + r % 8 * 512 + kind % 4 * 64 + c % 64 := by
  simp only [shiftWord, toNat_append_eq_add, BitVec.toNat_ofNat]
  omega

theorem toNat_shiftByteWord (r kind c : Nat) :
    (shiftByteWord r kind c).toNat = 0o67 * 4096 + kind % 4 * 64 + r % 8 * 8 + c % 8 := by
  simp only [shiftByteWord, toNat_append_eq_add, BitVec.toNat_ofNat]
  omega

theorem toNat_branchWord (cv : Nat) (low : BitVec 8) :
    (branchWord cv low).toNat = 14 * 16384 + cv % 64 * 256 + low.toNat := by
  simp only [branchWord, toNat_append_eq_add, BitVec.toNat_ofNat]
  omega

theorem toNat_flagOperands (k : Nat) (q : BitVec 5) : (flagOperands k q).toNat = k % 8 * 32 + q.toNat := by
  simp only [flagOperands, toNat_append_eq_add, BitVec.toNat_ofNat]
  rfl

end Sys2Proof

/-! ## The chart and the listings -/

namespace Sys2Proof

/-- The second octal digit `w[14:12]` of the shift words of a size (30_encoding.md R72, R81). -/
def ShSize.digit : ShSize → Nat
  | .long => 0
  | .int => 4
  | .half => 6
  | .byte => 7

theorem ShSize.digit_cases (size : ShSize) :
    size.digit = 0 ∨ size.digit = 4 ∨ size.digit = 6 ∨ size.digit = 7 := by
  cases size <;> decide

theorem shiftSize_eq_some_iff {digit : Nat} {size : ShSize} : shiftSize digit = some size ↔ digit = size.digit := by
  constructor
  · intro h
    unfold shiftSize at h
    split at h <;> cases h <;> rfl
  · rintro rfl
    cases size <;> rfl

/-- The reference word of a shift of a size, in whichever of the two arrangements of the fields the size has
(30_encoding.md R83). -/
def sizedShiftWord (size : ShSize) (r kind c : Nat) : Word :=
  match size with
  | .byte => shiftByteWord r kind c
  | size => shiftWord (0o60 + size.digit) r kind c

/-- A size has as many counts as its operand has bits (30_encoding.md R88). -/
theorem ShSize.width_eq_counts (size : ShSize) : size.width = size.counts := by
  cases size <;> rfl

/-- The columns from 12 up belong to the other formats (30_encoding.md R72). -/
theorem opChart_eq_none {column : Nat} (h : 12 ≤ column) (row : Nat) : opChart column row = none := by
  obtain ⟨c, rfl⟩ := Nat.exists_eq_add_of_le' h
  rfl

/-- The chart has twelve columns of eight rows, and its first cell is blank (30_encoding.md R91, R92, R95). -/
theorem opcode_of_opChart {op : Nat} {mk : Nat → Nat → Instr} (h : opChart (op / 8) (op % 8) = some mk) :
    op ≠ 0 ∧ op < 96 := by
  constructor
  · rintro rfl
    cases h
  · by_contra hop
    rw [opChart_eq_none (by omega)] at h
    cases h

/-- An instruction of the chart is encoded with its opcode, and names integer registers in the columns below 8,
floating-point registers from there on (30_encoding.md R74, R91, R92). -/
theorem opChart_encode {op : Nat} {mk : Nat → Nat → Instr} (h : opChart (op / 8) (op % 8) = some mk) (rd rs : Nat) :
    encode (mk rd rs) = operateWord op rd rs ∧
      (mk rd rs).form = if op < 64 then .intOp rd rs else .floatOp rd rs := by
  obtain ⟨-, hop⟩ := opcode_of_opChart h
  interval_cases op <;> cases h <;> exact ⟨rfl, rfl⟩

theorem shiftListing_encode {size : ShSize} {kind : Nat} {mk : Nat → Nat → Instr} (h : shiftListing size kind = some mk)
    (reg cnt : Nat) :
    encode (mk reg cnt) = sizedShiftWord size reg kind cnt ∧ (mk reg cnt).form = .shift size reg cnt := by
  unfold shiftListing at h
  split at h <;> cases h <;> exact ⟨rfl, rfl⟩

theorem branchListing_encode {cv : Nat} {mk : BitVec 8 → Instr} (h : branchListing cv = some mk) (disp : BitVec 8) :
    encode (mk disp) = branchWord cv disp ∧ (mk disp).form = .branch disp := by
  unfold branchListing at h
  split at h <;> cases h <;> exact ⟨rfl, rfl⟩

theorem flagListing_encode {cv : Nat} {mk : Nat → BitVec 5 → Instr} (h : flagListing cv = some mk) (k : Nat)
    (q : BitVec 5) : encode (mk k q) = branchWord cv (flagOperands k q) ∧ (mk k q).form = .flag k q := by
  unfold flagListing at h
  split at h <;> cases h <;> exact ⟨rfl, rfl⟩

theorem kind_lt_of_shiftListing {size : ShSize} {kind : Nat} {mk : Nat → Nat → Instr}
    (h : shiftListing size kind = some mk) : kind < 4 := by
  unfold shiftListing at h
  split at h <;> cases h <;> decide

/-- The condition values of the branches (30_encoding.md R94, R97). -/
theorem branchListing_value {cv : Nat} {mk : BitVec 8 → Instr} (h : branchListing cv = some mk) :
    cv ≤ 25 ∧ cv ≠ 8 ∧ cv ≠ 16 := by
  unfold branchListing at h
  split at h <;> cases h <;> decide

/-- The condition values of the flag instructions (30_encoding.md R85, R97). -/
theorem flagListing_value {cv : Nat} {mk : Nat → BitVec 5 → Instr} (h : flagListing cv = some mk) :
    34 ≤ cv ∧ cv ≤ 36 := by
  unfold flagListing at h
  split at h <;> cases h <;> decide

theorem flagListing_eq_none {cv : Nat} (h : cv < 34 ∨ 36 < cv) : flagListing cv = none :=
  Option.eq_none_iff_forall_ne_some.2 fun _ hmk => by
    obtain ⟨hlo, hhi⟩ := flagListing_value hmk
    omega

end Sys2Proof

/-! ## The words that are instructions -/

namespace Sys2Proof

/-- What makes a word `w` the instruction `i`, format by format: the printed bits select an entry of the chart or of a
listing, the layout does not call the operands reserved, and they are the operands of `i` (30_encoding.md R72). -/
inductive Reads (L : Layouts) (w : Word) (i : Instr) : Prop where
  | operate (mk : Nat → Nat → Instr) (hmk : opChart (fieldNat w 11 7 / 8) (fieldNat w 11 7 % 8) = some mk)
      (hres : L.opReserved (w.extractLsb' 0 11) = false)
      (hi : mk (L.dstOf (w.extractLsb' 0 11)) (L.srcOf (w.extractLsb' 0 11)) = i)
  | shift (size : ShSize) (mk : Nat → Nat → Instr) (hsize : fieldNat w 12 6 = 0o60 + size.digit)
      (hmk : shiftListing size (fieldNat w 6 2) = some mk) (hres : L.shReserved size w = false)
      (hcnt : L.countOf size w < size.counts) (hi : mk (L.regOf size w) (L.countOf size w) = i)
  | branch (mk : BitVec 8 → Instr) (hspace : fieldNat w 14 4 = 14) (hmk : branchListing (fieldNat w 8 6) = some mk)
      (hi : mk (w.extractLsb' 0 8) = i)
  | flag (mk : Nat → BitVec 5 → Instr) (hspace : fieldNat w 14 4 = 14) (hmk : flagListing (fieldNat w 8 6) = some mk)
      (hcond : listedCond (L.condOf (w.extractLsb' 0 8)) = true)
      (hi : mk (L.flagOf (w.extractLsb' 0 8)) (L.condOf (w.extractLsb' 0 8)) = i)
  | svc (hspace : fieldNat w 14 4 = 14) (hcv : fieldNat w 8 6 = 62)
      (hi : Instr.svc (L.svcCode (w.extractLsb' 0 8)) = i)

/-- The fields that select a format and an entry of the chart are parts of the seven bits `w[17:11]`
(30_encoding.md R72, R74). -/
theorem fields_of_opcode (w : Word) :
    fieldNat w 16 2 = fieldNat w 11 7 / 32 ∧ fieldNat w 15 3 = fieldNat w 11 7 / 16 ∧
      fieldNat w 14 4 = fieldNat w 11 7 / 8 ∧ fieldNat w 11 3 = fieldNat w 11 7 % 8 ∧
      fieldNat w 12 6 = fieldNat w 11 7 / 2 ∧ fieldNat w 12 3 = fieldNat w 11 7 / 2 % 8 ∧ fieldNat w 11 7 < 128 := by
  simp only [fieldNat_eq]
  omega

theorem decodeOperate_eq_some_iff {L : Layouts} {w : Word} {i : Instr} :
    decodeOperate L w = some i ↔ L.opReserved (w.extractLsb' 0 11) = false ∧
      ∃ mk, opChart (fieldNat w 11 7 / 8) (fieldNat w 11 7 % 8) = some mk ∧
        mk (L.dstOf (w.extractLsb' 0 11)) (L.srcOf (w.extractLsb' 0 11)) = i := by
  obtain ⟨-, -, hcol, hrow, -⟩ := fields_of_opcode w
  simp [decodeOperate, hcol, hrow]

theorem decodeShift_eq_some_iff {L : Layouts} {w : Word} {i : Instr} :
    decodeShift L w = some i ↔ ∃ size : ShSize, fieldNat w 12 3 = size.digit ∧
      (L.shReserved size w = false ∧ L.countOf size w < size.counts) ∧
      ∃ mk, shiftListing size (fieldNat w 6 2) = some mk ∧ mk (L.regOf size w) (L.countOf size w) = i := by
  unfold decodeShift
  simp only [← shiftSize_eq_some_iff, ← ShSize.width_eq_counts]
  cases shiftSize (fieldNat w 12 3) <;> simp

theorem decodeBranchSpace_eq_some_iff {L : Layouts} {w : Word} {i : Instr} :
    decodeBranchSpace L w = some i ↔
      (∃ mk, branchListing (fieldNat w 8 6) = some mk ∧ mk (w.extractLsb' 0 8) = i) ∨
      (∃ mk, flagListing (fieldNat w 8 6) = some mk ∧ listedCond (L.condOf (w.extractLsb' 0 8)) = true ∧
        mk (L.flagOf (w.extractLsb' 0 8)) (L.condOf (w.extractLsb' 0 8)) = i) ∨
      (fieldNat w 8 6 = 62 ∧ Instr.svc (L.svcCode (w.extractLsb' 0 8)) = i) := by
  unfold decodeBranchSpace
  cases hb : branchListing (fieldNat w 8 6) with
  | some mk =>
    obtain ⟨hcv, -⟩ := branchListing_value hb
    have hf := flagListing_eq_none (cv := fieldNat w 8 6) (by omega)
    have hsvc : fieldNat w 8 6 ≠ 62 := by omega
    simp [hb, hf, hsvc]
  | none =>
    cases hf : flagListing (fieldNat w 8 6) with
    | some mk =>
      obtain ⟨-, hcv⟩ := flagListing_value hf
      have hsvc : fieldNat w 8 6 ≠ 62 := by omega
      simp [hb, hf, hsvc]
    | none => simp [hb, hf]

/-- The decoder reads a word as the instruction it is, and as nothing else. -/
theorem decodeWith_eq_some_iff {L : Layouts} {w : Word} {i : Instr} : decodeWith L w = some i ↔ Reads L w i := by
  obtain ⟨h16, h15, h14, -, h12, h12', hop⟩ := fields_of_opcode w
  unfold decodeWith
  constructor
  · intro h
    split_ifs at h with _ _ hspace
    · obtain ⟨hres, mk, hmk, hi⟩ := decodeOperate_eq_some_iff.1 h
      exact .operate mk hmk hres hi
    · obtain ⟨size, hsize, ⟨hres, hcnt⟩, mk, hmk, hi⟩ := decodeShift_eq_some_iff.1 h
      exact .shift size mk (by omega) hmk hres hcnt hi
    · obtain ⟨mk, hmk, hi⟩ | ⟨mk, hmk, hcond, hi⟩ | ⟨hcv, hi⟩ := decodeBranchSpace_eq_some_iff.1 h
      · exact .branch mk hspace hmk hi
      · exact .flag mk hspace hmk hcond hi
      · exact .svc hspace hcv hi
  · intro h
    cases h with
    | operate mk hmk hres hi =>
      have hlt := (opcode_of_opChart hmk).2
      rw [if_pos (by omega)]
      exact decodeOperate_eq_some_iff.2 ⟨hres, mk, hmk, hi⟩
    | shift size mk hsize hmk hres hcnt hi =>
      have hdigit := size.digit_cases
      rw [if_neg (by omega), if_pos (by omega)]
      exact decodeShift_eq_some_iff.2 ⟨size, by omega, ⟨hres, hcnt⟩, mk, hmk, hi⟩
    | branch mk hspace hmk hi =>
      rw [if_neg (by omega), if_neg (by omega), if_pos hspace]
      exact decodeBranchSpace_eq_some_iff.2 (.inl ⟨mk, hmk, hi⟩)
    | flag mk hspace hmk hcond hi =>
      rw [if_neg (by omega), if_neg (by omega), if_pos hspace]
      exact decodeBranchSpace_eq_some_iff.2 (.inr (.inl ⟨mk, hmk, hcond, hi⟩))
    | svc hspace hcv hi =>
      rw [if_neg (by omega), if_neg (by omega), if_pos hspace]
      exact decodeBranchSpace_eq_some_iff.2 (.inr (.inr ⟨hcv, hi⟩))

end Sys2Proof

/-! ## The words the encoder builds -/

namespace Sys2Proof

theorem fieldNat_operateWord (op rd rs : Nat) : fieldNat (operateWord op rd rs) 11 7 = op % 128 := by
  rw [fieldNat_eq, toNat_operateWord]
  omega

theorem fieldNat_sizedShiftWord (size : ShSize) (r kind c : Nat) :
    fieldNat (sizedShiftWord size r kind c) 12 6 = 0o60 + size.digit ∧
      fieldNat (sizedShiftWord size r kind c) 6 2 = kind % 4 := by
  cases size <;>
    simp only [sizedShiftWord, ShSize.digit, fieldNat_eq, toNat_shiftWord, toNat_shiftByteWord] <;>
    omega

theorem fieldNat_branchWord (cv : Nat) (low : BitVec 8) :
    fieldNat (branchWord cv low) 14 4 = 14 ∧ fieldNat (branchWord cv low) 8 6 = cv % 64 := by
  simp only [fieldNat_eq, toNat_branchWord]
  omega

theorem extractLsb'_branchWord (cv : Nat) (low : BitVec 8) : (branchWord cv low).extractLsb' 0 8 = low :=
  BitVec.extractLsb'_append_eq_right

end Sys2Proof

/-! ## The reference layouts -/

namespace Sys2Proof

/-- The operand fields of an operate word (30_encoding.md R73). -/
theorem ref_operate_fields (w : Word) :
    Layouts.ref.dstOf (w.extractLsb' 0 11) = w.toNat / 256 % 8 ∧
      Layouts.ref.srcOf (w.extractLsb' 0 11) = w.toNat / 32 % 8 ∧
      (Layouts.ref.opReserved (w.extractLsb' 0 11) = false ↔ w.toNat % 32 = 0) := by
  simp only [Layouts.ref, bne_eq_false_iff_eq, ← BitVec.toNat_inj, BitVec.extractLsb'_toNat, BitVec.toNat_ofNat,
    Nat.shiftRight_eq_div_pow]
  omega

/-- The bits of a shift word that the fields of its size leave over, as a number that is 0 when they are
(30_encoding.md R83, R96). -/
def ShSize.leftover (size : ShSize) (w : Word) : Nat :=
  match size with
  | .long => 0
  | .int => fieldNat w 5 1
  | .half => fieldNat w 4 2
  | .byte => fieldNat w 9 3

theorem refShReserved_eq_false_iff {size : ShSize} {w : Word} :
    refShReserved size w = false ↔ fieldNat w 8 1 = 0 ∧ size.leftover w = 0 := by
  cases size <;>
    simp only [refShReserved, ShSize.leftover, Bool.or_eq_false_iff, bne_eq_false_iff_eq, getLsbD_eq_false_iff,
      fieldNat_eq, Nat.pow_one, and_true]

/-- Register numbers of three bits are read back from the word that holds them. -/
theorem ref_operateWord (op : Nat) {rd rs : Nat} (hd : rd < 8) (hs : rs < 8) :
    Layouts.ref.dstOf ((operateWord op rd rs).extractLsb' 0 11) = rd ∧
      Layouts.ref.srcOf ((operateWord op rd rs).extractLsb' 0 11) = rs ∧
      Layouts.ref.opReserved ((operateWord op rd rs).extractLsb' 0 11) = false := by
  obtain ⟨hdst, hsrc, hres⟩ := ref_operate_fields (operateWord op rd rs)
  rw [hdst, hsrc, hres, toNat_operateWord]
  omega

/-- A register number of three bits and a count below the operand width are read back from the word that holds them. -/
theorem ref_sizedShiftWord {size : ShSize} {r c : Nat} (kind : Nat) (hr : r < 8) (hc : c < size.counts) :
    refRegOf size (sizedShiftWord size r kind c) = r ∧ refCountOf size (sizedShiftWord size r kind c) = c ∧
      refShReserved size (sizedShiftWord size r kind c) = false := by
  rw [refShReserved_eq_false_iff]
  cases size <;>
    simp only [sizedShiftWord, refRegOf, refCountOf, ShSize.leftover, ShSize.counts, fieldNat_eq, toNat_shiftWord,
      toNat_shiftByteWord, and_true] at hc ⊢ <;>
    omega

/-- A flag number of three bits and the condition number are read back from the bits that hold them. -/
theorem ref_flagOperands {k : Nat} (hk : k < 8) (q : BitVec 5) :
    Layouts.ref.flagOf (flagOperands k q) = k ∧ Layouts.ref.condOf (flagOperands k q) = q := by
  refine ⟨?_, BitVec.extractLsb'_append_eq_right⟩
  have h : (flagOperands k q).toNat / 32 % 8 = k := by
    rw [toNat_flagOperands]
    omega
  simpa [Layouts.ref, Nat.shiftRight_eq_div_pow] using h

/-- A word of format OP whose low bits are not reserved is the word of its fields. -/
theorem operateWord_of_fields {w : Word} (hres : Layouts.ref.opReserved (w.extractLsb' 0 11) = false) :
    operateWord (fieldNat w 11 7) (Layouts.ref.dstOf (w.extractLsb' 0 11)) (Layouts.ref.srcOf (w.extractLsb' 0 11)) =
      w := by
  obtain ⟨hdst, hsrc, hiff⟩ := ref_operate_fields w
  have hlow := hiff.1 hres
  apply BitVec.eq_of_toNat_eq
  rw [toNat_operateWord, hdst, hsrc, fieldNat_eq]
  omega

theorem sizedShiftWord_of_fields {size : ShSize} {w : Word} (hsize : fieldNat w 12 6 = 0o60 + size.digit)
    (hres : refShReserved size w = false) :
    sizedShiftWord size (refRegOf size w) (fieldNat w 6 2) (refCountOf size w) = w := by
  obtain ⟨h8, hleft⟩ := refShReserved_eq_false_iff.1 hres
  apply BitVec.eq_of_toNat_eq
  cases size <;>
    simp only [sizedShiftWord, refRegOf, refCountOf, ShSize.leftover, ShSize.digit, fieldNat_eq, toNat_shiftWord,
      toNat_shiftByteWord] at hsize h8 hleft ⊢ <;>
    omega

theorem branchWord_of_fields {w : Word} (hspace : fieldNat w 14 4 = 14) :
    branchWord (fieldNat w 8 6) (w.extractLsb' 0 8) = w := by
  apply BitVec.eq_of_toNat_eq
  rw [toNat_branchWord]
  simp only [fieldNat_eq, BitVec.extractLsb'_toNat, Nat.shiftRight_eq_div_pow] at hspace ⊢
  omega

theorem flagOperands_of_fields (v : BitVec 8) : flagOperands (Layouts.ref.flagOf v) (Layouts.ref.condOf v) = v := by
  apply BitVec.eq_of_toNat_eq
  rw [toNat_flagOperands]
  simp only [Layouts.ref, BitVec.extractLsb'_toNat, Nat.shiftRight_eq_div_pow]
  omega

end Sys2Proof

/-! ## Decoding an encoded instruction -/

namespace Sys2Proof

/-- The instructions of the chart are well formed when both register numbers have three bits. -/
theorem opChart_wellFormed {op : Nat} {mk : Nat → Nat → Instr} (h : opChart (op / 8) (op % 8) = some mk) (rd rs : Nat) :
    (mk rd rs).wellFormed = true ↔ rd < 8 ∧ rs < 8 := by
  rw [Instr.wellFormed, (opChart_encode h rd rs).2]
  split_ifs <;> simp [Form.wellFormed]

theorem Form.wellFormed_shift_iff {size : ShSize} {reg cnt : Nat} :
    (Form.shift size reg cnt).wellFormed = true ↔ reg < 8 ∧ cnt < size.counts := by
  simp [Form.wellFormed]

theorem Form.wellFormed_flag_iff {k : Nat} {q : BitVec 5} :
    (Form.flag k q).wellFormed = true ↔ k < 8 ∧ listedCond q = true := by
  simp [Form.wellFormed]

theorem decode_operateWord {op rd rs : Nat} {mk : Nat → Nat → Instr} (hmk : opChart (op / 8) (op % 8) = some mk)
    (hwf : (mk rd rs).wellFormed = true) : decode (operateWord op rd rs) = some (mk rd rs) := by
  obtain ⟨-, hop⟩ := opcode_of_opChart hmk
  obtain ⟨hd, hs⟩ := (opChart_wellFormed hmk rd rs).1 hwf
  have hcode : fieldNat (operateWord op rd rs) 11 7 = op := by
    rw [fieldNat_operateWord]
    omega
  obtain ⟨hdst, hsrc, hres⟩ := ref_operateWord op hd hs
  exact decodeWith_eq_some_iff.2 (.operate mk (by rwa [hcode]) hres (congrArg₂ mk hdst hsrc))

theorem decode_sizedShiftWord {size : ShSize} {r kind c : Nat} {mk : Nat → Nat → Instr}
    (hmk : shiftListing size kind = some mk) (hwf : (Form.shift size r c).wellFormed = true) :
    decode (sizedShiftWord size r kind c) = some (mk r c) := by
  obtain ⟨hr, hc⟩ := Form.wellFormed_shift_iff.1 hwf
  obtain ⟨hsize, hkind⟩ := fieldNat_sizedShiftWord size r kind c
  rw [Nat.mod_eq_of_lt (kind_lt_of_shiftListing hmk)] at hkind
  obtain ⟨hreg, hcnt, hres⟩ := ref_sizedShiftWord kind hr hc
  exact decodeWith_eq_some_iff.2
    (.shift size mk hsize (by rwa [hkind]) hres (hcnt.trans_lt hc) (congrArg₂ mk hreg hcnt))

theorem decode_branchWord {cv : Nat} {mk : BitVec 8 → Instr} (hmk : branchListing cv = some mk) (disp : BitVec 8) :
    decode (branchWord cv disp) = some (mk disp) := by
  obtain ⟨hspace, hcv⟩ := fieldNat_branchWord cv disp
  have hlt := (branchListing_value hmk).1
  rw [Nat.mod_eq_of_lt (by omega)] at hcv
  exact decodeWith_eq_some_iff.2 (.branch mk hspace (by rwa [hcv]) (congrArg mk (extractLsb'_branchWord cv disp)))

theorem decode_flagWord {cv k : Nat} {q : BitVec 5} {mk : Nat → BitVec 5 → Instr} (hmk : flagListing cv = some mk)
    (hwf : (Form.flag k q).wellFormed = true) : decode (branchWord cv (flagOperands k q)) = some (mk k q) := by
  obtain ⟨hk, hq⟩ := Form.wellFormed_flag_iff.1 hwf
  obtain ⟨hspace, hcv⟩ := fieldNat_branchWord cv (flagOperands k q)
  have hlt := (flagListing_value hmk).2
  rw [Nat.mod_eq_of_lt (by omega)] at hcv
  have hlow := extractLsb'_branchWord cv (flagOperands k q)
  obtain ⟨hflag, hcond⟩ := ref_flagOperands hk q
  exact decodeWith_eq_some_iff.2
    (.flag mk hspace (by rwa [hcv]) (by rwa [hlow, hcond]) (by rw [hlow, hflag, hcond]))

theorem decode_svcWord (code : BitVec 8) : decode (branchWord 62 code) = some (.svc code) :=
  have ⟨hspace, hcv⟩ := fieldNat_branchWord 62 code
  decodeWith_eq_some_iff.2 (.svc hspace hcv (congrArg Instr.svc (extractLsb'_branchWord 62 code)))

/-- Settles O2: each instruction stands in the chart or in a listing under the number it is encoded with. -/
theorem decodeAfterEncode : Obligations.DecodeAfterEncode := by
  intro i hwf
  cases i with
  | lsllc reg cnt | lsrlc reg cnt | rllc reg cnt | asrlc reg cnt =>
    exact decode_sizedShiftWord (size := .long) rfl hwf
  | lslc reg cnt | lsrc reg cnt | rlc reg cnt | asrc reg cnt => exact decode_sizedShiftWord (size := .int) rfl hwf
  | lslhc reg cnt | lsrhc reg cnt | rlhc reg cnt | asrhc reg cnt =>
    exact decode_sizedShiftWord (size := .half) rfl hwf
  | lslbc reg cnt | lsrbc reg cnt | rlbc reg cnt | asrbc reg cnt =>
    exact decode_sizedShiftWord (size := .byte) rfl hwf
  | nop disp | blr disp | ber disp | bler disp | bhr disp | bner disp | bher disp | b disp
  | bm disp | bz disp | bmz disp | bp disp | bnz disp | bpz disp | bnv disp
  | bl disp | be disp | ble disp | bh disp | bne disp | bhe disp | bnc disp | bc disp | bv disp =>
    exact decode_branchWord rfl disp
  | sfc k q | cfc k q | ctf k q => exact decode_flagWord rfl hwf
  | svc code => exact decode_svcWord code
  | _ rd rs => exact decode_operateWord rfl hwf

/-! ## Encoding a decoded word -/

/-- Settles O3: the fields that a word's format reads are all of its bits that are not fixed. -/
theorem encodeAfterDecode : Obligations.EncodeAfterDecode := by
  intro w i h
  cases decodeWith_eq_some_iff.1 h with
  | operate mk hmk hres hi =>
    subst hi
    obtain ⟨hdst, hsrc, -⟩ := ref_operate_fields w
    refine ⟨(opChart_wellFormed hmk _ _).2 ⟨by omega, by omega⟩, ?_⟩
    rw [(opChart_encode hmk _ _).1, operateWord_of_fields hres]
  | shift size mk hsize hmk hres hcnt hi =>
    subst hi
    obtain ⟨henc, hform⟩ := shiftListing_encode hmk (Layouts.ref.regOf size w) (Layouts.ref.countOf size w)
    have hreg : Layouts.ref.regOf size w < 8 := by
      cases size <;> exact BitVec.isLt _
    refine ⟨?_, henc.trans (sizedShiftWord_of_fields hsize hres)⟩
    rw [Instr.wellFormed, hform]
    exact Form.wellFormed_shift_iff.2 ⟨hreg, hcnt⟩
  | branch mk hspace hmk hi =>
    subst hi
    obtain ⟨henc, hform⟩ := branchListing_encode hmk (w.extractLsb' 0 8)
    exact ⟨congrArg Form.wellFormed hform, henc.trans (branchWord_of_fields hspace)⟩
  | flag mk hspace hmk hcond hi =>
    subst hi
    obtain ⟨henc, hform⟩ := flagListing_encode hmk (Layouts.ref.flagOf (w.extractLsb' 0 8))
      (Layouts.ref.condOf (w.extractLsb' 0 8))
    have hflag : Layouts.ref.flagOf (w.extractLsb' 0 8) < 8 := BitVec.isLt _
    constructor
    · rw [Instr.wellFormed, hform]
      exact Form.wellFormed_flag_iff.2 ⟨hflag, hcond⟩
    · rw [henc, flagOperands_of_fields, branchWord_of_fields hspace]
  | svc hspace hcv hi =>
    subst hi
    have hw := branchWord_of_fields hspace
    rw [hcv] at hw
    exact ⟨rfl, hw⟩

/-! ## What holds under every layout -/

/-- Settles O4: an instruction's printed bits are those of an entry, and none of these words has them. -/
theorem reservedWordsDecodeToNothing : Obligations.ReservedWordsDecodeToNothing := by
  intro L w hw
  simp only [List.mem_cons, List.not_mem_nil, or_false] at hw
  obtain ⟨-, h15, h14, -, h12, h12', -⟩ := fields_of_opcode w
  refine Option.eq_none_iff_forall_ne_some.2 fun i h => ?_
  cases decodeWith_eq_some_iff.1 h with
  | operate mk hmk =>
    have hop := opcode_of_opChart hmk
    omega
  | shift size mk hsize =>
    have hdigit := size.digit_cases
    omega
  | branch mk hspace hmk =>
    have hcv := branchListing_value hmk
    omega
  | flag mk hspace hmk =>
    have hcv := flagListing_value hmk
    omega
  | svc hspace hcv => omega

/-- The first ten bits of a word of the branch space are the same for all words with its condition value. -/
theorem fieldNat_branchWord_eq {w : Word} {cv : Nat} (hspace : fieldNat w 14 4 = 14) (hcv : fieldNat w 8 6 = cv)
    (low : BitVec 8) : fieldNat (branchWord cv low) 8 10 = fieldNat w 8 10 := by
  simp only [fieldNat_eq, toNat_branchWord] at hspace hcv ⊢
  omega

/-- Settles O5: an instruction is encoded with the number of its entry, which is the one the word has. -/
theorem formatSelectionIgnoresTheLayouts : Obligations.FormatSelectionIgnoresTheLayouts := by
  intro L w i h
  cases decodeWith_eq_some_iff.1 h with
  | operate mk hmk hres hi =>
    subst hi
    obtain ⟨henc, hform⟩ := opChart_encode hmk (L.dstOf (w.extractLsb' 0 11)) (L.srcOf (w.extractLsb' 0 11))
    rw [henc, hform, fieldNat_operateWord]
    split_ifs <;> exact Nat.mod_eq_of_lt (BitVec.isLt _)
  | shift size mk hsize hmk hres hcnt hi =>
    subst hi
    obtain ⟨henc, hform⟩ := shiftListing_encode hmk (L.regOf size w) (L.countOf size w)
    obtain ⟨hlead, hkind⟩ := fieldNat_sizedShiftWord size (L.regOf size w) (fieldNat w 6 2) (L.countOf size w)
    rw [henc, hform, hlead, hkind]
    exact ⟨hsize.symm, Nat.mod_eq_of_lt (BitVec.isLt _)⟩
  | branch mk hspace hmk hi =>
    subst hi
    obtain ⟨henc, hform⟩ := branchListing_encode hmk (w.extractLsb' 0 8)
    rw [henc, hform]
    exact branchWord_of_fields hspace
  | flag mk hspace hmk hcond hi =>
    subst hi
    obtain ⟨henc, hform⟩ := flagListing_encode hmk (L.flagOf (w.extractLsb' 0 8)) (L.condOf (w.extractLsb' 0 8))
    rw [henc, hform]
    exact fieldNat_branchWord_eq hspace rfl _
  | svc hspace hcv hi =>
    subst hi
    exact fieldNat_branchWord_eq hspace hcv _

/-- Settles O1: closed words, which the decoder is run on. -/
theorem decodeReadsTheWrittenWords : Obligations.DecodeReadsTheWrittenWords := by
  unfold Obligations.DecodeReadsTheWrittenWords
  decide

end Sys2Proof

/-! ## The container lengths -/

namespace Sys2Proof.Machine

theorem containerLen_leaves_eight {n len : Nat} (h : containerLen n = some len) : 18 * n + 8 ≤ len := by
  unfold containerLen at h
  split at h <;> cases h <;> decide

/-- The rows of the source's table (30_encoding.md R77). -/
def containerRows : List (Nat × Nat) :=
  [(48, 2), (64, 3), (80, 4), (112, 5), (128, 6), (144, 7), (160, 8), (176, 9), (192, 10), (208, 11), (224, 12),
    (256, 13), (272, 14), (288, 15)]

theorem containerLen_of_mem_rows : ∀ r ∈ containerRows, containerLen r.2 = some r.1 := by
  decide

theorem mem_rows_of_containerLen {n len : Nat} (h : containerLen n = some len) : (len, n) ∈ containerRows := by
  unfold containerLen at h
  split at h <;> cases h <;> decide

/-- Settles O16: both the table and its two facts are checked row by row. -/
theorem containerLengths : Obligations.ContainerLengths :=
  ⟨fun _ _ => ⟨mem_rows_of_containerLen, containerLen_of_mem_rows _⟩,
    fun _ _ h => ⟨containerLen_mod_sixteen h, containerLen_leaves_eight h⟩⟩

end Sys2Proof.Machine

/-! PROOFS of the statements about the integer operate instructions (40_integer_operate.md R113 to R127). -/

/-! ## One result: LOAD, UNSIGNED LOAD, INSERT, STORE, MULTIPLY and the logical operations -/

namespace Sys2Proof.Machine

/-- The low bits of a register are its value modulo `2^N`. -/
theorem toNat_lo (n : Nat) (v : XVal) : ((lo n v).toNat : Int) = uval n v % 2 ^ n := by
  rw [uval_eq]
  exact_mod_cast (Nat.mod_eq_of_lt (lo n v).isLt).symm

/-- The bit vector of a value holds it modulo `2^N`. -/
theorem natCast_toNat_ofInt (n : Nat) (v : Int) : ((BitVec.ofInt n v).toNat : Int) = v % 2 ^ n := by
  rw [BitVec.toNat_ofInt, Int.toNat_of_nonneg (Int.emod_nonneg _ (by positivity))]
  push_cast
  rfl

/-- The low half of a product is the signed product modulo `2^N` (40_integer_operate.md R120). -/
theorem toNat_lo_mul {n : Nat} (h0 : 0 < n) (a b : XVal) :
    ((lo n a * lo n b).toNat : Int) = (sval n a * sval n b) % 2 ^ n := by
  rw [sval_eq h0, sval_eq h0, ← natCast_toNat_ofInt, BitVec.ofInt_mul, BitVec.ofInt_toInt, BitVec.ofInt_toInt]

/-- An instruction whose result is the source operand writes the source's value. -/
theorem intResult_source_writesValue {n : Nat} (h0 : 0 < n) (hn : n ≤ 64) (e : Ext) {rd rs : Nat} {s : State}
    (hd : rd < s.nireg) (hs : rs < s.nireg) :
    WritesValue e n rd (uval n (s.readX rs)) s (intResult n e (fun _ b => b) rd rs s) :=
  intResult_writesValue h0 hn hd hs (toNat_lo n _)

/-- MULTIPLY at any width. -/
theorem intResult_mul_writesValue {n : Nat} (h0 : 0 < n) (hn : n ≤ 64) (e : Ext) {rd rs : Nat} {s : State}
    (hd : rd < s.nireg) (hs : rs < s.nireg) :
    WritesValue e n rd (sval n (s.readX rd) * sval n (s.readX rs)) s (intResult n e (fun a b => a * b) rd rs s) :=
  intResult_writesValue h0 hn hd hs (toNat_lo_mul h0 _ _)

/-- An instruction whose result is computed bit by bit writes the operation of the two registers' bits. -/
theorem intResult_bitwise_writesBits {n : Nat} (h0 : 0 < n) (hn : n ≤ 64) (e : Ext) {rd rs : Nat} {s : State}
    (hd : rd < s.nireg) (hs : rs < s.nireg) {f : BitVec n → BitVec n → BitVec n} {op : Bool → Bool → Bool}
    (hf : ∀ a b i, (f a b).getLsbD i = op (a.getLsbD i) (b.getLsbD i)) :
    WritesBits e n rd (fun j => op ((s.readX rd).getLsbD j) ((s.readX rs).getLsbD j)) s (intResult n e f rd rs s) := by
  refine ⟨_, (intResult_runs n e f rd rs s).1 ⟨hd, hs⟩, OnlyX.one s rd _, ?_⟩
  rw [State.advance_readX, State.readX_writeX_same _ _ hd]
  refine ⟨fun i hi => ?_, upperBits_extend h0 hn e _ _⟩
  rw [← getLsbD_of_lo hi, lo_extend hn, hf, getLsbD_of_lo hi, getLsbD_of_lo hi]

/-- Settles O21: each instruction moves the source at its own width. -/
theorem loadSignExtends : Obligations.LoadSignExtends :=
  fun _ _ _ hd hs =>
    have load {n : Nat} (hn : 0 < n ∧ n ≤ 64) := intResult_source_writesValue hn.1 hn.2 .sign hd hs
    ⟨load (by decide), load (by decide), load (by decide), load (by decide)⟩

/-- Settles O22: each instruction moves the source at its own width. -/
theorem unsignedLoadClears : Obligations.UnsignedLoadClears :=
  fun _ _ _ hd hs =>
    have load {n : Nat} (hn : 0 < n ∧ n ≤ 64) := intResult_source_writesValue hn.1 hn.2 .zero hd hs
    ⟨load (by decide), load (by decide), load (by decide)⟩

/-- Settles O23: each instruction moves the source at its own width. -/
theorem insertKeepsTheRest : Obligations.InsertKeepsTheRest :=
  fun _ _ _ hd hs =>
    have insert {n : Nat} (hn : 0 < n ∧ n ≤ 64) := intResult_source_writesValue hn.1 hn.2 .unchanged hd hs
    ⟨insert (by decide), insert (by decide), insert (by decide)⟩

/-- Settles O24: each instruction moves the source at its own width. -/
theorem storeFillsTheDestination : Obligations.StoreFillsTheDestination :=
  fun _ _ s hd hs =>
    have store {n : Nat} (hn : 0 < n ∧ n ≤ 64) :=
      intResult_source_writesValue hn.1 hn.2 (upperExt s.par.stUpper) hd hs
    ⟨store (by decide), store (by decide), store (by decide), store (by decide)⟩

/-- Settles O27: each instruction is the one operation at its own width. -/
theorem multiplyKeepsTheLowHalf : Obligations.MultiplyKeepsTheLowHalf :=
  fun _ _ _ hd hs =>
    have mul {n : Nat} (hn : 0 < n ∧ n ≤ 64) := intResult_mul_writesValue hn.1 hn.2 .sign hd hs
    ⟨mul (by decide), mul (by decide), mul (by decide), mul (by decide)⟩

/-- Settles O28: three operations, each bit by bit, at four widths. -/
theorem logicalOperationsAreBitwise : Obligations.LogicalOperationsAreBitwise :=
  fun _ _ s hd hs =>
    have and {n : Nat} (hn : 0 < n ∧ n ≤ 64) :=
      intResult_bitwise_writesBits hn.1 hn.2 s.par.narrowExt hd hs (fun _ _ _ => BitVec.getLsbD_and)
    have or {n : Nat} (hn : 0 < n ∧ n ≤ 64) :=
      intResult_bitwise_writesBits hn.1 hn.2 s.par.narrowExt hd hs (fun _ _ _ => BitVec.getLsbD_or)
    have xor {n : Nat} (hn : 0 < n ∧ n ≤ 64) :=
      intResult_bitwise_writesBits hn.1 hn.2 s.par.narrowExt hd hs (fun _ _ _ => BitVec.getLsbD_xor)
    ⟨and (by decide), and (by decide), and (by decide), and (by decide),
      or (by decide), or (by decide), or (by decide), or (by decide),
      xor (by decide), xor (by decide), xor (by decide), xor (by decide)⟩

end Sys2Proof.Machine

/-! ## SWAP and COMPARE -/

namespace Sys2Proof.Machine

/-- Of two writes to registers of the file, the second stands. -/
theorem State.readX_second_of_two (s : State) {d r : Nat} (v u : XVal) (hr : r < s.nireg) :
    ((s.writeX d v).writeX r u).advance.readX r = u :=
  State.readX_writeX_same _ u (by simpa using hr)

/-- Of two writes to registers of the file, the first stands if the other register is another. -/
theorem State.readX_first_of_two (s : State) {d r : Nat} (v u : XVal) (hd : d < s.nireg) (hne : d ≠ r) :
    ((s.writeX d v).writeX r u).advance.readX d = v := by
  rw [State.advance_readX, State.readX_writeX_of_ne _ _ hne, State.readX_writeX_same _ _ hd]

/-- SWAP at any width. One register named twice is given its own low bits. -/
theorem intSwap_exchanges {n : Nat} (h0 : 0 < n) (hn : n ≤ 64) {rd rs : Nat} {s : State} (hd : rd < s.nireg)
    (hs : rs < s.nireg) : Exchanges (upperExt s.par.swUpper) n rd rs s (intSwap n rd rs s) := by
  refine ⟨_, (intSwap_runs n rd rs s).1 ⟨hd, hs⟩, OnlyX.two s rd rs _ _, Fills.of_extend h0 hn ?_ (toNat_lo n _),
    Fills.of_extend h0 hn (s.readX_second_of_two _ _ hs) (toNat_lo n _)⟩
  by_cases hne : rd = rs
  · subst hne
    exact s.readX_second_of_two _ _ hd
  · exact s.readX_first_of_two _ _ hd hne

/-- Settles O25: each instruction is the one exchange at its own width. -/
theorem swapExchangesLocations : Obligations.SwapExchangesLocations :=
  fun _ _ s hd hs =>
    have swap {n : Nat} (hn : 0 < n ∧ n ≤ 64) := intSwap_exchanges (s := s) hn.1 hn.2 hd hs
    ⟨swap (by decide), swap (by decide), swap (by decide), swap (by decide)⟩

/-- Two low parts are one bit vector when their signed values agree. -/
theorem lo_eq_iff_sval {n : Nat} (h0 : 0 < n) (a b : XVal) : lo n a = lo n b ↔ sval n a = sval n b := by
  rw [sval_eq h0, sval_eq h0, BitVec.toInt_inj]

/-- Two low parts are one bit vector when their unsigned values agree. -/
theorem lo_eq_iff_uval (n : Nat) (a b : XVal) : lo n a = lo n b ↔ uval n a = uval n b := by
  rw [uval_eq, uval_eq, Int.natCast_inj, BitVec.toNat_inj]

/-- The condition codes of an integer COMPARE report both orders, whatever is drawn. -/
theorem compareCC_reportsOrders {n : Nat} (h0 : 0 < n) (draw : Nat) (a b : XVal) :
    ReportsOrders n a b (compareCC draw (lo n a) (lo n b)) := by
  refine ⟨?_, ?_, rfl⟩
  · simp only [compareCC, signedOrder, lo_eq_iff_sval h0, ← sval_eq h0]
  · simp only [compareCC, unsignedOrder, lo_eq_iff_uval, uval_eq, Int.ofNat_lt]

/-- COMPARE at any width. -/
theorem intCompare_reportsOrders {n : Nat} (h0 : 0 < n) {rd rs : Nat} {s : State} (hd : rd < s.nireg)
    (hs : rs < s.nireg) :
    ∃ t, intCompare n rd rs s = .next t ∧ OnlyCC s t ∧ ReportsOrders n (s.readX rd) (s.readX rs) t.cc :=
  ⟨_, (intCompare_runs n rd rs s).1 ⟨hd, hs⟩, OnlyCC.intro s _, compareCC_reportsOrders h0 _ _ _⟩

/-- Settles O29: each instruction is the one comparison at its own width. -/
theorem compareReportsBothOrders : Obligations.CompareReportsBothOrders :=
  fun _ _ s hd hs =>
    have compare {n : Nat} (h0 : 0 < n) := intCompare_reportsOrders (s := s) h0 hd hs
    ⟨compare (by decide), compare (by decide), compare (by decide), compare (by decide)⟩

end Sys2Proof.Machine

/-! ## What fits in a signed location -/

namespace Sys2Proof.Machine

/-- `v` is the signed value of some `n` bits (00_scope.md R11). -/
def FitsSigned (n : Nat) (v : Int) : Prop :=
  -2 ^ (n - 1) ≤ v ∧ v < 2 ^ (n - 1)

theorem fitsSigned_toInt {n : Nat} (v : BitVec n) : FitsSigned n v.toInt :=
  ⟨v.le_toInt, v.toInt_lt⟩

theorem fitsSigned_sval {n : Nat} (h0 : 0 < n) (v : XVal) : FitsSigned n (sval n v) := by
  rw [sval_eq h0]
  exact fitsSigned_toInt _

/-- A value that fits is the signed value of its bits. -/
theorem FitsSigned.toInt_ofInt {n : Nat} (h0 : 0 < n) {v : Int} (h : FitsSigned n v) : (BitVec.ofInt n v).toInt = v :=
  BitVec.toInt_ofInt_eq_self h0 h.1 h.2

/-- A value that fits is the signed value of the register its bits are extended to. -/
theorem FitsSigned.toInt_signExtend {n : Nat} (h0 : 0 < n) (hn : n ≤ 64) {v : Int} (h : FitsSigned n v) :
    ((BitVec.ofInt n v).signExtend 64).toInt = v :=
  (BitVec.toInt_signExtend_of_le hn).trans (h.toInt_ofInt h0)

/-- A product fits in twice the width of its factors. -/
theorem fitsSigned_mul {n : Nat} (h0 : 0 < n) (a b : BitVec n) : FitsSigned (2 * n) (a.toInt * b.toInt) := by
  have hlo : -2 ^ (n * 2 - 2) ≤ a.toInt * b.toInt := BitVec.le_toInt_mul_toInt
  have hhi : a.toInt * b.toInt ≤ 2 ^ (n * 2 - 2) := BitVec.toInt_mul_toInt_le
  have hpow : (2 : Int) ^ (n * 2 - 2) < 2 ^ (2 * n - 1) := pow_lt_pow_right₀ (by decide) (by omega)
  exact ⟨by omega, by omega⟩

/-- The quotient's magnitude is at most the dividend's. -/
theorem SignedDivision.natAbs_quotient_le {a b q r : Int} (h : SignedDivision a b q r) : q.natAbs ≤ a.natAbs :=
  h.1.trans_le (Nat.div_le_self _ _)

/-- The remainder's magnitude is below the divisor's. -/
theorem SignedDivision.natAbs_remainder_lt {a b q r : Int} (h : SignedDivision a b q r) (hb : b ≠ 0) :
    r.natAbs < b.natAbs :=
  h.2.1.trans_lt (Nat.mod_lt _ (Int.natAbs_pos.2 hb))

/-- The one quotient of two `n`-bit values that is above every `n`-bit value: the most negative dividend by -1. -/
theorem SignedDivision.quotient_eq_two_pow_iff {n : Nat} {a b q r : Int} (h : SignedDivision a b q r)
    (ha : FitsSigned n a) : q = 2 ^ (n - 1) ↔ a = -2 ^ (n - 1) ∧ b = -1 := by
  have hpow : (0 : Int) < 2 ^ (n - 1) := by positivity
  have habs := h.abs_dividend
  obtain ⟨hq, -, hsame, hopposite⟩ := h
  obtain ⟨hlo, hhi⟩ := ha
  generalize (2 : Int) ^ (n - 1) = m at *
  constructor
  · rintro rfl
    have hb : |b| ≤ 1 := by
      rw [abs_of_pos hpow] at habs
      nlinarith [abs_nonneg r, abs_le.2 ⟨hlo, hhi.le⟩]
    obtain rfl | rfl | rfl := Int.abs_le_one_iff.1 hb
    · rw [Int.natAbs_zero, Nat.div_zero] at hq
      omega
    · rw [Int.natAbs_one, Nat.div_one] at hq
      omega
    · rw [Int.natAbs_neg, Int.natAbs_one, Nat.div_one] at hq
      omega
  · rintro ⟨rfl, rfl⟩
    rw [Int.natAbs_neg, Int.natAbs_neg, Int.natAbs_one, Nat.div_one] at hq
    omega

/-- Every other quotient fits where the dividend does. -/
theorem SignedDivision.quotient_fits {n : Nat} {a b q r : Int} (h : SignedDivision a b q r) (ha : FitsSigned n a)
    (hov : ¬(a = -2 ^ (n - 1) ∧ b = -1)) : FitsSigned n q := by
  have hle := h.natAbs_quotient_le
  have hne := mt (h.quotient_eq_two_pow_iff ha).1 hov
  obtain ⟨hlo, hhi⟩ := ha
  exact ⟨by omega, by omega⟩

/-- The remainder fits where the divisor does. -/
theorem SignedDivision.remainder_fits {n : Nat} {a b q r : Int} (h : SignedDivision a b q r) (hb : FitsSigned n b)
    (hb0 : b ≠ 0) : FitsSigned n r := by
  have hlt := h.natAbs_remainder_lt hb0
  obtain ⟨hlo, hhi⟩ := hb
  exact ⟨by omega, by omega⟩

end Sys2Proof.Machine

/-! ## The divisions in the statements' terms -/

namespace Sys2Proof.Machine

/-- A division's account with its divisor and its overflow said in other words. -/
theorem RunsDivision.congr {regs zero zero' ovf ovf' : Prop} {t : State} {w : Word} {o : Result}
    (h : RunsDivision regs zero ovf t w o) (hz : zero ↔ zero') (ho : ovf ↔ ovf') :
    RunsDivision regs zero' ovf' t w o := by
  rwa [← hz, ← ho]

section
variable {regs zero ovf : Prop} {t : State} {w : Word} {o : Result}

theorem RunsDivision.stops_on_zero (h : RunsDivision regs zero ovf t w o) (hregs : regs) (hz : zero) :
    o = .fault (.divideByZero w) :=
  h.2.1 hregs hz

theorem RunsDivision.stops_on_overflow (h : RunsDivision regs zero ovf t w o) (hregs : regs) (hz : ¬zero) (ho : ovf) :
    o = .fault (.divideOverflow w) :=
  h.2.2.1 hregs hz ho

theorem RunsDivision.completes (h : RunsDivision regs zero ovf t w o) (hregs : regs) (hz : ¬zero) (ho : ¬ovf) :
    o = .next t :=
  h.2.2.2 hregs hz ho

end

theorem sval_long (v : XVal) : sval 64 v = v.toInt := by
  rw [sval_eq (by decide), lo, BitVec.setWidth_eq]

/-- The operands of DIVIDE are the dividend and the divisor, by the order the parameter gives. -/
theorem divOperands_toInt {n : Nat} (h0 : 0 < n) (rd rs : Nat) (s : State) :
    divOperands s.par.divOrder (lo n (s.readX rd)).toInt (lo n (s.readX rs)).toInt =
      (s.signedDividend n rd rs, s.signedDivisor n rd rs) := by
  simp only [State.signedDividend, State.signedDivisor, sval_eq h0]
  cases s.par.divOrder <;> rfl

/-- The dividend of DIVIDE UNSIGNED among the low bits of the registers. -/
theorem divOperands_toNat_fst (n rd rs : Nat) (s : State) :
    ((divOperands s.par.divOrder (lo n (s.readX rd)).toNat (lo n (s.readX rs)).toNat).1 : Int) =
      s.unsignedDividend n rd rs := by
  simp only [State.unsignedDividend, uval_eq]
  cases s.par.divOrder <;> rfl

/-- The divisor of DIVIDE UNSIGNED among the low bits of the registers. -/
theorem divOperands_toNat_snd (n rd rs : Nat) (s : State) :
    ((divOperands s.par.divOrder (lo n (s.readX rd)).toNat (lo n (s.readX rs)).toNat).2 : Int) =
      s.unsignedDivisor n rd rs := by
  simp only [State.unsignedDivisor, uval_eq]
  cases s.par.divOrder <;> rfl

theorem fitsSigned_signedDividend {n : Nat} (h0 : 0 < n) (rd rs : Nat) (s : State) :
    FitsSigned n (s.signedDividend n rd rs) := by
  unfold State.signedDividend dividendOf
  split <;> exact fitsSigned_sval h0 _

/-- DIVIDE at any width. -/
theorem intDivide_account {n : Nat} (h0 : 0 < n) (rd rs : Nat) (s : State) :
    RunsDivision (rd < s.nireg ∧ rs < s.nireg) (s.signedDivisor n rd rs = 0)
      (s.signedDividend n rd rs = -2 ^ (n - 1) ∧ s.signedDivisor n rd rs = -1)
      (s.writeX rd (extend s.par.narrowExt (s.readX rd)
        (BitVec.ofInt n ((s.signedDividend n rd rs).tdiv (s.signedDivisor n rd rs))))).advance s.word
      (intDivide n rd rs s) := by
  have h := intDivide_runs n rd rs s
  simp only [divOperands_toInt h0] at h
  rw [← divmag_fst_eq_tdiv]
  exact h.congr Iff.rfl ((divmag_signedDivision _ _).quotient_eq_two_pow_iff (fitsSigned_signedDividend h0 rd rs s))

/-- DIVIDE UNSIGNED at any width. -/
theorem intDivideUnsigned_account (n rd rs : Nat) (s : State) :
    RunsDivision (rd < s.nireg ∧ rs < s.nireg) (s.unsignedDivisor n rd rs = 0) False
      (s.writeX rd (extend s.par.uext (s.readX rd)
        (BitVec.ofInt n (s.unsignedDividend n rd rs / s.unsignedDivisor n rd rs)))).advance s.word
      (intDivideUnsigned n rd rs s) := by
  have h := intDivideUnsigned_runs n rd rs s
  simp only [udiv, ← BitVec.ofInt_natCast, Int.natCast_ediv, divOperands_toNat_fst, divOperands_toNat_snd] at h
  refine h.congr ?_ Iff.rfl
  rw [← divOperands_toNat_snd, Int.natCast_eq_zero]

/-- DIVIDE EXTENSIBLY of halfwords and integers. -/
theorem divExtend_account {n : Nat} (h0 : 0 < n) (rd rs : Nat) (s : State) :
    RunsDivision (rd < s.nireg ∧ rs < s.nireg ∧ rd + 1 < s.nireg) (sval n (s.readX rs) = 0)
      (sval (2 * n) (s.readX rd) = -2 ^ (2 * n - 1) ∧ sval n (s.readX rs) = -1)
      ((s.writeX rd ((BitVec.ofInt (2 * n) (divmag (sval (2 * n) (s.readX rd)) (sval n (s.readX rs))).1).signExtend
        64)).writeX (rd + 1)
        ((BitVec.ofInt n (divmag (sval (2 * n) (s.readX rd)) (sval n (s.readX rs))).2).signExtend 64)).advance s.word
      (divExtend n rd rs s) := by
  have h := divExtend_runs n rd rs s
  simp only [← sval_eq h0, ← sval_eq (Nat.mul_pos two_pos h0)] at h
  exact h.congr Iff.rfl ((divmag_signedDivision _ _).quotient_eq_two_pow_iff (fitsSigned_sval (by omega) _))

/-- DIVIDE EXTENSIBLY LONG. -/
theorem divExtendLong_account (rd rs : Nat) (s : State) :
    RunsDivision ((rd < s.nireg ∧ rs < s.nireg ∧ rd + 1 < s.nireg ∧ rd + 2 < s.nireg) ∧ rd % 2 = 0)
      ((s.readX rs).toInt = 0) ((s.readPair rd).toInt = -2 ^ 127 ∧ (s.readX rs).toInt = -1)
      (((s.writeX rd (highHalf (BitVec.ofInt 128 (divmag (s.readPair rd).toInt (s.readX rs).toInt).1))).writeX (rd + 1)
        (lowHalf (BitVec.ofInt 128 (divmag (s.readPair rd).toInt (s.readX rs).toInt).1))).writeX (rd + 2)
        (BitVec.ofInt 64 (divmag (s.readPair rd).toInt (s.readX rs).toInt).2)).advance s.word
      (divExtendLong rd rs s) :=
  (divExtendLong_runs rd rs s).congr Iff.rfl
    ((divmag_signedDivision _ _).quotient_eq_two_pow_iff (n := 128) (fitsSigned_toInt _))

end Sys2Proof.Machine

/-! ## Divisions that stop -/

namespace Sys2Proof.Machine

/-- A long register is 0 when its signed value is. -/
theorem toInt_eq_zero_iff (v : XVal) : v.toInt = 0 ↔ v = 0 := by
  rw [← BitVec.toInt_inj]
  rfl

/-- The low bits are all 0 in either reading. -/
theorem sval_eq_zero_iff {n : Nat} (h0 : 0 < n) (v : XVal) : sval n v = 0 ↔ uval n v = 0 := by
  calc sval n v = 0 ↔ lo n v = 0#n := by rw [sval_eq h0, ← BitVec.toInt_inj, BitVec.toInt_zero]
    _ ↔ uval n v = 0 := by rw [uval_eq, Int.natCast_eq_zero, ← BitVec.toNat_inj, BitVec.toNat_zero]

/-- Settles O36: the divisor is checked after the registers and before all else. -/
theorem divideByZeroStops : Obligations.DivideByZeroStops := by
  refine ⟨fun rd rs s hd hs => ?_, fun rd rs s hd hs => ?_, fun rd rs s heven hd hs => ?_⟩
  · have signed {n : Nat} (h0 : 0 < n) := (intDivide_account h0 rd rs s).stops_on_zero ⟨hd, hs⟩
    have unsigned (n : Nat) := (intDivideUnsigned_account n rd rs s).stops_on_zero ⟨hd, hs⟩
    exact ⟨signed (by decide), signed (by decide), signed (by decide), signed (by decide),
      unsigned 8, unsigned 16, unsigned 32, unsigned 64⟩
  · have hregs : rd < s.nireg ∧ rs < s.nireg ∧ rd + 1 < s.nireg := by omega
    have signed {n : Nat} (h0 : 0 < n) (hz : uval n (s.readX rs) = 0) :=
      (divExtend_account h0 rd rs s).stops_on_zero hregs ((sval_eq_zero_iff h0 _).2 hz)
    have unsigned {n : Nat} (hz : uval n (s.readX rs) = 0) :=
      (divExtendUnsigned_runs n rd rs s).stops_on_zero hregs (by rw [uval_eq] at hz; exact_mod_cast hz)
    exact ⟨signed (by decide), signed (by decide), unsigned, unsigned⟩
  · have hregs : (rd < s.nireg ∧ rs < s.nireg ∧ rd + 1 < s.nireg ∧ rd + 2 < s.nireg) ∧ rd % 2 = 0 := by omega
    exact ⟨fun hz => (divExtendLong_account rd rs s).stops_on_zero hregs ((toInt_eq_zero_iff _).2 hz),
      fun hz => (divExtendUnsignedLong_runs rd rs s).stops_on_zero hregs (by rw [hz]; rfl)⟩

/-- Settles O37: the divisor is -1, so the check for 0 has passed. -/
theorem divideOverflowStops : Obligations.DivideOverflowStops := by
  refine ⟨fun rd rs s hd hs => ?_, fun rd rs s hd hs => ?_, fun rd rs s heven hd hs ha hb => ?_⟩
  · have stops {n : Nat} (h0 : 0 < n) (ha : s.signedDividend n rd rs = -2 ^ (n - 1))
        (hb : s.signedDivisor n rd rs = -1) :=
      (intDivide_account h0 rd rs s).stops_on_overflow ⟨hd, hs⟩ (by omega) ⟨ha, hb⟩
    exact ⟨stops (by decide), stops (by decide), stops (by decide), stops (by decide)⟩
  · have stops {n : Nat} (h0 : 0 < n) (ha : sval (2 * n) (s.readX rd) = -2 ^ (2 * n - 1))
        (hb : sval n (s.readX rs) = -1) :=
      (divExtend_account h0 rd rs s).stops_on_overflow (by omega) (by omega) ⟨ha, hb⟩
    refine ⟨stops (n := 16) (by decide), ?_⟩
    rw [← sval_long]
    exact stops (n := 32) (by decide)
  · exact (divExtendLong_account rd rs s).stops_on_overflow (by omega) (by omega) ⟨ha, hb⟩

end Sys2Proof.Machine

/-! ## Divisions that complete -/

namespace Sys2Proof.Machine

/-- A division that completes by filling its destination with the value `v` writes it. -/
theorem writesValue_of_ofInt {n : Nat} (h0 : 0 < n) (hn : n ≤ 64) {e : Ext} {rd : Nat} {s : State} {v : Int}
    {o : Result} (hd : rd < s.nireg) (ho : o = .next (s.writeX rd (extend e (s.readX rd) (BitVec.ofInt n v))).advance) :
    WritesValue e n rd v s o :=
  ⟨_, ho, OnlyX.one s rd _, Fills.of_extend h0 hn (s.readX_writeX_same _ hd) (natCast_toNat_ofInt n v)⟩

/-- Settles O30: each instruction is the one division at its own width. -/
theorem divideTruncates : Obligations.DivideTruncates :=
  fun rd rs s hd hs =>
    have divide {n : Nat} (hn : 0 < n ∧ n ≤ 64) (hz : s.signedDivisor n rd rs ≠ 0)
        (hov : ¬(s.signedDividend n rd rs = -2 ^ (n - 1) ∧ s.signedDivisor n rd rs = -1)) :=
      writesValue_of_ofInt hn.1 hn.2 hd ((intDivide_account hn.1 rd rs s).completes ⟨hd, hs⟩ hz hov)
    ⟨divide (by decide), divide (by decide), divide (by decide), divide (by decide)⟩

/-- Settles O31: each instruction is the one division at its own width. -/
theorem divideUnsignedFloors : Obligations.DivideUnsignedFloors :=
  fun rd rs s hd hs =>
    have divide {n : Nat} (hn : 0 < n ∧ n ≤ 64) (hz : s.unsignedDivisor n rd rs ≠ 0) :=
      writesValue_of_ofInt hn.1 hn.2 hd ((intDivideUnsigned_account n rd rs s).completes ⟨hd, hs⟩ hz not_false)
    ⟨divide (by decide), divide (by decide), divide (by decide), divide (by decide)⟩

end Sys2Proof.Machine

/-! ## Double-length results -/

namespace Sys2Proof.Machine

@[simp] theorem State.advance_readPair (s : State) (n : Nat) : s.advance.readPair n = s.readPair n := rfl

/-- A register outside the pair leaves it alone. -/
theorem State.readPair_writeX_of_ne (s : State) {n m : Nat} (v : XVal) (h : n ≠ m) (h' : n + 1 ≠ m) :
    (s.writeX m v).readPair n = s.readPair n := by
  rw [State.readPair, s.readX_writeX_of_ne v h, s.readX_writeX_of_ne v h', State.readPair]

/-- A pair of the file reads as its halves were last written. -/
theorem State.readPair_writeX_halves (s : State) {n : Nat} (p : BitVec 128) (h : n + 1 < s.nireg) :
    ((s.writeX n (highHalf p)).writeX (n + 1) (lowHalf p)).readPair n = p := by
  rw [State.readPair, ← State.advance_readX, s.readX_first_of_two _ _ (by omega) (by omega), ← State.advance_readX,
    s.readX_second_of_two _ _ h, highHalf_append_lowHalf]

/-- The pair after an instruction that writes it and the register after it. -/
theorem State.readPair_of_three (s : State) {n : Nat} (p : BitVec 128) (v : XVal) (h : n + 1 < s.nireg) :
    (((s.writeX n (highHalf p)).writeX (n + 1) (lowHalf p)).writeX (n + 2) v).advance.readPair n = p := by
  rw [State.advance_readPair, State.readPair_writeX_of_ne _ _ (by omega) (by omega), s.readPair_writeX_halves p h]

/-- The register after the pair, after an instruction that writes the pair and it. -/
theorem State.readX_third_of_three (s : State) {d r e : Nat} (v u z : XVal) (h : e < s.nireg) :
    (((s.writeX d v).writeX r u).writeX e z).advance.readX e = z :=
  State.readX_writeX_same _ z (by simpa using h)

/-- MULTIPLY EXTENSIBLY of halfwords and integers. -/
theorem mulExtend_gives_product {n : Nat} (h0 : 0 < n) (hn : 2 * n ≤ 64) {rd rs : Nat} {s : State}
    (hd : rd < s.nireg) (hs : rs < s.nireg) :
    ∃ t, mulExtend n rd rs s = .next t ∧ OnlyX [rd] s t ∧
      (t.readX rd).toInt = sval n (s.readX rd) * sval n (s.readX rs) := by
  refine ⟨_, (mulExtend_runs n rd rs s).1 ⟨hd, hs⟩, OnlyX.one s rd _, ?_⟩
  rw [State.advance_readX, s.readX_writeX_same _ hd, sval_eq h0, sval_eq h0]
  exact (fitsSigned_mul h0 _ _).toInt_signExtend (by omega) hn

/-- MULTIPLY EXTENSIBLY LONG. -/
theorem mulExtendLong_gives_product {rd rs : Nat} {s : State} (heven : rd % 2 = 0) (hd : rd + 1 < s.nireg)
    (hs : rs < s.nireg) :
    ∃ t, mulExtendLong rd rs s = .next t ∧ OnlyX [rd, rd + 1] s t ∧
      (t.readPair rd).toInt = (s.readX rd).toInt * (s.readX rs).toInt := by
  refine ⟨_, (mulExtendLong_runs rd rs s).1 (by omega), OnlyX.two s rd (rd + 1) _ _, ?_⟩
  rw [State.advance_readPair, s.readPair_writeX_halves _ hd]
  exact (fitsSigned_mul (by decide) _ _).toInt_ofInt (by decide)

/-- Settles O32: two widths in one register, and the pair. -/
theorem multiplyExtensiblyGivesTheFullProduct : Obligations.MultiplyExtensiblyGivesTheFullProduct :=
  ⟨fun _ _ _ hd hs =>
      ⟨mulExtend_gives_product (by decide) (by decide) hd hs, mulExtend_gives_product (by decide) (by decide) hd hs⟩,
    fun _ _ _ => mulExtendLong_gives_product⟩

/-- DIVIDE EXTENSIBLY of halfwords and integers. -/
theorem divExtend_divides {n : Nat} (h0 : 0 < n) (hn : 2 * n ≤ 64) {rd rs : Nat} {s : State} (hd : rd + 1 < s.nireg)
    (hs : rs < s.nireg) (hb : sval n (s.readX rs) ≠ 0)
    (hov : ¬(sval (2 * n) (s.readX rd) = -2 ^ (2 * n - 1) ∧ sval n (s.readX rs) = -1)) :
    ∃ t q r, divExtend n rd rs s = .next t ∧ OnlyX [rd, rd + 1] s t ∧
      SignedDivision (sval (2 * n) (s.readX rd)) (sval n (s.readX rs)) q r ∧
      (t.readX rd).toInt = q ∧ (t.readX (rd + 1)).toInt = r := by
  have hdiv := divmag_signedDivision (sval (2 * n) (s.readX rd)) (sval n (s.readX rs))
  refine ⟨_, _, _, (divExtend_account h0 rd rs s).completes (by omega) hb hov, OnlyX.two s rd (rd + 1) _ _,
    hdiv, ?_, ?_⟩
  · rw [s.readX_first_of_two _ _ (by omega) (by omega)]
    exact (hdiv.quotient_fits (fitsSigned_sval (by omega) _) hov).toInt_signExtend (by omega) hn
  · rw [s.readX_second_of_two _ _ hd]
    exact (hdiv.remainder_fits (fitsSigned_sval h0 _) hb).toInt_signExtend h0 (by omega)

/-- DIVIDE EXTENSIBLY LONG. -/
theorem divExtendLong_divides {rd rs : Nat} {s : State} (heven : rd % 2 = 0) (hd : rd + 2 < s.nireg) (hs : rs < s.nireg)
    (hb : (s.readX rs).toInt ≠ 0) (hov : ¬((s.readPair rd).toInt = -2 ^ 127 ∧ (s.readX rs).toInt = -1)) :
    ∃ t q r, divExtendLong rd rs s = .next t ∧ OnlyX [rd, rd + 1, rd + 2] s t ∧
      SignedDivision (s.readPair rd).toInt (s.readX rs).toInt q r ∧
      (t.readPair rd).toInt = q ∧ (t.readX (rd + 2)).toInt = r := by
  have hdiv := divmag_signedDivision (s.readPair rd).toInt (s.readX rs).toInt
  refine ⟨_, _, _, (divExtendLong_account rd rs s).completes (by omega) hb hov,
    OnlyX.three s rd (rd + 1) (rd + 2) _ _ _, hdiv, ?_, ?_⟩
  · rw [s.readPair_of_three _ _ (by omega)]
    exact (hdiv.quotient_fits (n := 128) (fitsSigned_toInt _) hov).toInt_ofInt (by decide)
  · rw [s.readX_third_of_three _ _ _ hd]
    exact (hdiv.remainder_fits (fitsSigned_toInt _) hb).toInt_ofInt (by decide)

/-- Settles O33: two widths in one register, and the pair. -/
theorem divideExtensiblyFollowsTheSignRule : Obligations.DivideExtensiblyFollowsTheSignRule := by
  refine ⟨fun rd rs s hd hs => ⟨divExtend_divides (by decide) (by decide) hd hs, ?_⟩,
    fun _ _ _ => divExtendLong_divides⟩
  rw [← sval_long]
  exact divExtend_divides (by decide) (by decide) hd hs

/-- DIVIDE EXTENSIBLY UNSIGNED of halfwords and integers. -/
theorem divExtendUnsigned_divides {n : Nat} (h0 : 0 < n) (hn : 2 * n ≤ 64) {rd rs : Nat} {s : State}
    (hd : rd + 1 < s.nireg) (hs : rs < s.nireg) (hb : uval n (s.readX rs) ≠ 0) :
    ∃ t, divExtendUnsigned n rd rs s = .next t ∧ OnlyX [rd, rd + 1] s t ∧
      Fills s.par.uext (2 * n) rd (uval (2 * n) (s.readX rd) / uval n (s.readX rs)) s t ∧
      Fills s.par.uext n (rd + 1) (uval (2 * n) (s.readX rd) % uval n (s.readX rs)) s t := by
  simp only [uval_eq] at hb ⊢
  refine ⟨_, (divExtendUnsigned_runs n rd rs s).completes (by omega) (by exact_mod_cast hb) not_false,
    OnlyX.two s rd (rd + 1) _ _,
    Fills.of_extend (by omega) hn (s.readX_first_of_two _ _ (by omega) (by omega)) ?_,
    Fills.of_extend h0 (by omega) (s.readX_second_of_two _ _ hd) ?_⟩
  · rw [← Int.natCast_ediv, ← natCast_toNat_ofInt, BitVec.ofInt_natCast, udiv]
  · rw [← Int.natCast_emod, ← natCast_toNat_ofInt, BitVec.ofInt_natCast, udiv]

/-- DIVIDE EXTENSIBLY UNSIGNED LONG. -/
theorem divExtendUnsignedLong_divides {rd rs : Nat} {s : State} (heven : rd % 2 = 0) (hd : rd + 2 < s.nireg)
    (hs : rs < s.nireg) (hb : (s.readX rs).toNat ≠ 0) :
    ∃ t, divExtendUnsignedLong rd rs s = .next t ∧ OnlyX [rd, rd + 1, rd + 2] s t ∧
      (t.readPair rd).toNat = (s.readPair rd).toNat / (s.readX rs).toNat ∧
      (t.readX (rd + 2)).toNat = (s.readPair rd).toNat % (s.readX rs).toNat := by
  refine ⟨_, (divExtendUnsignedLong_runs rd rs s).completes (by omega) hb not_false,
    OnlyX.three s rd (rd + 1) (rd + 2) _ _ _, ?_, ?_⟩
  · rw [s.readPair_of_three _ _ (by omega), BitVec.toNat_ofNat]
    exact Nat.mod_eq_of_lt ((Nat.div_le_self _ _).trans_lt (s.readPair rd).isLt)
  · rw [s.readX_third_of_three _ _ _ hd, BitVec.toNat_ofNat]
    exact Nat.mod_eq_of_lt ((Nat.mod_lt _ (Nat.pos_of_ne_zero hb)).trans (s.readX rs).isLt)

/-- Settles O34: two widths in one register, and the pair. -/
theorem divideExtensiblyUnsignedFloors : Obligations.DivideExtensiblyUnsignedFloors :=
  ⟨fun _ _ _ hd hs =>
      ⟨divExtendUnsigned_divides (by decide) (by decide) hd hs,
        divExtendUnsigned_divides (by decide) (by decide) hd hs⟩,
    fun _ _ _ => divExtendUnsignedLong_divides⟩

/-- Dividing a product by one of its factors gives the other. -/
theorem SignedDivision.of_mul {a b q r : Int} (h : SignedDivision (a * b) b q r) (hb : b ≠ 0) : q = a ∧ r = 0 := by
  have hr : r = 0 := by
    obtain ⟨-, hrem, -, -⟩ := h
    rwa [Int.natAbs_mul, Nat.mul_mod_left, Int.natAbs_eq_zero] at hrem
  refine ⟨mul_right_cancel₀ hb ?_, hr⟩
  rcases lt_or_gt_of_ne hb with hneg | hpos
  · linarith [h.add_eq_of_neg hneg]
  · linarith [h.dividend_eq_of_pos hpos]

/-- Settles O39: the quotient is a factor of the product, so it is no overflow. -/
theorem divisionUndoesMultiplication : Obligations.DivisionUndoesMultiplication := by
  intro rd rs s heven hd hs hne hne' hb
  obtain ⟨t, hmul, honly, hproduct⟩ := mulExtendLong_gives_product heven (show rd + 1 < s.nireg by omega) hs
  have hsource : t.readX rs = s.readX rs := honly.others rs (by simp [hne, hne'])
  have hb' : (t.readX rs).toInt ≠ 0 := by
    rw [hsource]
    exact mt (toInt_eq_zero_iff _).1 hb
  have hov : ¬((t.readPair rd).toInt = -2 ^ 127 ∧ (t.readX rs).toInt = -1) := by
    rintro ⟨ha, hneg⟩
    have hlt := (s.readX rd).toInt_lt
    rw [hproduct, ← hsource, hneg] at ha
    omega
  rw [← honly.nireg] at hd hs
  obtain ⟨v, q, r, hdiv, -, hsign, hq, hr⟩ := divExtendLong_divides heven hd hs hb' hov
  rw [hproduct, hsource] at hsign
  obtain ⟨rfl, rfl⟩ := hsign.of_mul (hsource ▸ hb')
  exact ⟨t, v, hmul, hdiv, hq, (toInt_eq_zero_iff _).1 hr⟩

end Sys2Proof.Machine

/-! PROOFS of the statements about the floating-point operate instructions and formats (41_float_operate.md R203 to
R213). -/

/-! ## LOAD, STORE, SWAP and the arithmetic -/

namespace Sys2Proof.Machine

/-- A floating-point operate instruction with one result writes the value of its operation. -/
theorem floatResult_writesFloat {f : FVal → FVal → FVal} {rd rs : Nat} {s : State} {v : FVal} (hd : rd < s.nfreg)
    (hs : rs < s.nfreg) (hv : f (s.readF rd) (s.readF rs) = v) : WritesFloat rd v s (floatResult f rd rs s) :=
  ⟨_, (floatResult_runs f rd rs s).1 ⟨hd, hs⟩, OnlyF.one s rd _, (s.readF_writeF_same _ hd).trans hv⟩

/-- SWAP of any type. The destination is written last, so that one register named twice receives the first component
(41_float_operate.md R211). -/
theorem floatSwapRegs_writesBoth (ty : FType) {rd rs : Nat} {s : State} (hd : rd < s.nfreg) (hs : rs < s.nfreg) :
    ∃ t, floatSwapRegs ty rd rs s = .next t ∧ OnlyF [rd, rs] s t ∧
      t.readF rd = (floatSwap s.par ty (s.readF rd) (s.readF rs)).1 ∧
      (rs ≠ rd → t.readF rs = (floatSwap s.par ty (s.readF rd) (s.readF rs)).2) := by
  refine ⟨_, (floatSwapRegs_runs ty rd rs s).1 ⟨hd, hs⟩, OnlyF.two s rd rs _ _, ?_, fun hne => ?_⟩
  · exact State.readF_writeF_same _ _ (by simpa using hd)
  · rw [State.advance_readF, State.readF_writeF_of_ne _ _ hne, State.readF_writeF_same _ _ hs]

/-- Settles O41: each instruction is the one operation at its own type. -/
theorem floatLoadStoreSwap : Obligations.FloatLoadStoreSwap :=
  fun _ _ s hd hs =>
    have load (ty : FType) := floatResult_writesFloat (f := fun _ b => floatLoad s.par ty b) hd hs rfl
    have store (ty : FType) := floatResult_writesFloat (f := floatStore s.par ty) hd hs rfl
    have swap (ty : FType) := floatSwapRegs_writesBoth ty hd hs
    ⟨load .medium, load .floating, load .double, load .quad,
      store .medium, store .floating, store .double, store .quad,
      swap .medium, swap .floating, swap .double, swap .quad⟩

/-- With `DIV_ORDER` src_by_dst the source is the dividend. -/
theorem floatDiv_of_srcByDst {p : Params} (h : p.divOrder = .srcByDst) (ty : FType) (a b : FVal) :
    floatDiv p ty a b = Config.fnumDiv ty b a := by
  rw [floatDiv, h, divOperands]

/-- With `DIV_ORDER` dst_by_src the destination is the dividend. -/
theorem floatDiv_of_dstBySrc {p : Params} (h : p.divOrder = .dstBySrc) (ty : FType) (a b : FVal) :
    floatDiv p ty a b = Config.fnumDiv ty a b := by
  rw [floatDiv, h, divOperands]

/-- Settles O42: each instruction is the one operation at its own type, DIVIDE at either order. -/
theorem floatArithmeticUsesTheRecord : Obligations.FloatArithmeticUsesTheRecord :=
  fun _ _ s hd hs =>
    have add (ty : FType) := floatResult_writesFloat (f := Config.fnumAdd ty) hd hs rfl
    have sub (ty : FType) := floatResult_writesFloat (f := Config.fnumSub ty) hd hs rfl
    have mul (ty : FType) := floatResult_writesFloat (f := Config.fnumMul ty) hd hs rfl
    have srcByDst (ty : FType) (h : s.par.divOrder = .srcByDst) :=
      floatResult_writesFloat (f := floatDiv s.par ty) hd hs (floatDiv_of_srcByDst h ty _ _)
    have dstBySrc (ty : FType) (h : s.par.divOrder = .dstBySrc) :=
      floatResult_writesFloat (f := floatDiv s.par ty) hd hs (floatDiv_of_dstBySrc h ty _ _)
    ⟨add .medium, add .floating, add .double, add .quad,
      sub .medium, sub .floating, sub .double, sub .quad,
      mul .medium, mul .floating, mul .double, mul .quad,
      srcByDst .medium, dstBySrc .medium, srcByDst .floating, dstBySrc .floating,
      srcByDst .double, dstBySrc .double, srcByDst .quad, dstBySrc .quad⟩

/-- Where a register holds the Q format, LOAD QUAD is the identity (41_float_operate.md R208). -/
theorem floatLoad_quad {p : Params} (h : p.quadFills = true) (v : FVal) : floatLoad p .quad v = v :=
  if_pos ⟨h, rfl⟩

/-- Where a register holds the Q format, STORE QUAD leaves nothing of the old content (41_float_operate.md R208). -/
theorem floatStore_quad {p : Params} (h : p.quadFills = true) (old v : FVal) : floatStore p .quad old v = v :=
  if_pos ⟨h, rfl⟩

/-- Where a register holds the Q format, SWAP QUAD exchanges (41_float_operate.md R208). -/
theorem floatSwap_quad {p : Params} (h : p.quadFills = true) (vd vs : FVal) : floatSwap p .quad vd vs = (vs, vd) :=
  if_pos ⟨h, rfl⟩

/-- Settles O44: the three identities of type Q. One register named twice exchanges with itself. -/
theorem quadFillsItsRegister : Obligations.QuadFillsItsRegister := by
  intro rd rs s hq hd hs
  obtain ⟨t, hrun, honly, hdst, hsrc⟩ := floatSwapRegs_writesBoth .quad hd hs
  rw [floatSwap_quad hq] at hdst hsrc
  have load := floatResult_writesFloat (f := fun _ b => floatLoad s.par .quad b) hd hs (floatLoad_quad hq _)
  have store := floatResult_writesFloat (f := floatStore s.par .quad) hd hs (floatStore_quad hq _ _)
  refine ⟨load, store, t, hrun, honly, hdst, ?_⟩
  by_cases hne : rs = rd
  · subst hne
    exact hdst
  · exact hsrc hne

end Sys2Proof.Machine

/-! ## COMPARE -/

namespace Sys2Proof.Machine

/-- The order COMPARE reports is the record's, where that gives one; the draw shows only where it gives none. -/
theorem floatOrder_reports (draw : Nat) (ty : FType) (a b : FVal) :
    (Config.fnumCmp ty a b = .minus → floatOrder draw ty a b = .minus) ∧
      (Config.fnumCmp ty a b = .zero → floatOrder draw ty a b = .zero) ∧
      (Config.fnumCmp ty a b = .plus → floatOrder draw ty a b = .plus) :=
  ⟨fun h => by rw [floatOrder, h], fun h => by rw [floatOrder, h], fun h => by rw [floatOrder, h]⟩

/-- Settles O43: each instruction is the one comparison at its own type. -/
theorem floatCompareReportsTheOrder : Obligations.FloatCompareReportsTheOrder :=
  fun rd rs s hd hs =>
    have runs (ty : FType) := (floatCompare_runs ty rd rs s).1 ⟨hd, hs⟩
    have reports (ty : FType) := floatOrder_reports s.draws ty (s.readF rd) (s.readF rs)
    have only (ty : FType) := OnlyCC.intro s (floatCompareCC s.draws ty (s.readF rd) (s.readF rs))
    ⟨⟨_, runs .medium, only .medium, reports .medium⟩, ⟨_, runs .floating, only .floating, reports .floating⟩,
      ⟨_, runs .double, only .double, reports .double⟩, ⟨_, runs .quad, only .quad, reports .quad⟩⟩

end Sys2Proof.Machine

/-! ## The formats -/

namespace Sys2Proof.Machine

/-- The fields fill the width, and the bias is the one of 41_float_operate.md R203, R204. -/
theorem floatFormat_fields (ty : FType) :
    (floatFormat ty).width = 1 + (floatFormat ty).expBits + (floatFormat ty).sigBits ∧
      (floatFormat ty).bias = 2 ^ ((floatFormat ty).expBits - 1) - 2 := by
  cases ty <;> decide

theorem floatLeadingOne_floatOne (ty : FType) : floatLeadingOne ty (floatOne ty) = true := by
  cases ty <;> decide

/-- The pattern of 1.0 is a number in every format, whatever other patterns are. -/
theorem floatNormalised_floatOne (ty : FType) : floatNormalised ty (floatOne ty) = true := by
  simp [floatNormalised, floatLeadingOne_floatOne]

/-- The pattern of 1.0 is the leading significand bit alone, at the exponent that undoes it. -/
theorem floatValue_floatOne (ty : FType) :
    floatValue ty (floatOne ty) = { num := 2 ^ (floatFullBits ty - 1), exp := -(floatFullBits ty - 1 : Nat) } := by
  cases ty <;> decide

theorem floatSignificand_lt (ty : FType) (v : FPattern) : floatSignificand ty v < 2 ^ (floatFormat ty).sigBits :=
  Nat.mod_lt _ (Nat.two_pow_pos _)

/-- A leading one, hidden or stored, puts the significand between one half and one. -/
theorem floatFullSignificand_bounds {ty : FType} {v : FPattern} (h : floatLeadingOne ty v = true) :
    2 ^ (floatFullBits ty - 1) ≤ floatFullSignificand ty v ∧ floatFullSignificand ty v < 2 ^ floatFullBits ty := by
  have hlt := floatSignificand_lt ty v
  cases hidden : (floatFormat ty).hidden with
  | true =>
    simp only [floatFullBits, floatFullSignificand, hidden, if_true, Nat.add_sub_cancel, Nat.pow_succ]
    omega
  | false =>
    have hstored : 2 ^ ((floatFormat ty).sigBits - 1) ≤ floatSignificand ty v := by
      simpa [floatLeadingOne, hidden] using h
    simpa [floatFullBits, floatFullSignificand, hidden] using ⟨hstored, hlt⟩

/-- Settles O45: the worked patterns are the cases of `floatOne`, one for each format. -/
theorem floatFormatsReadOne : Obligations.FloatFormatsReadOne := by
  refine ⟨floatFormat_fields, floatNormalised_floatOne, fun ty v h => ?_,
    rfl, floatValue_floatOne .floating, rfl, floatValue_floatOne .medium,
    rfl, floatValue_floatOne .double, rfl, floatValue_floatOne .quad⟩
  simp only [floatNormalised, Bool.and_eq_true] at h
  exact floatFullSignificand_bounds h.1

end Sys2Proof.Machine

/-! PROOFS of the statements about the shift and rotate instructions (42_shift_rotate.md R251 to R259) and the reserved
operands of the flag instructions (44_flag_svc.md R321). -/

/-! ## The bits of a shifted operand -/

namespace Sys2Proof.Machine

variable {n c j : Nat}

/-- A left shift moves bit `j - c` to bit `j` and fills with zeros from below (42_shift_rotate.md R253). -/
theorem getLsbD_lo_shiftLeft (v : XVal) (hj : j < n) :
    (lo n v <<< c).getLsbD j = (decide (c ≤ j) && v.getLsbD (j - c)) := by
  rw [BitVec.getLsbD_shiftLeft, getLsbD_of_lo (by omega)]
  simp [hj, ← decide_not]

/-- A logical right shift moves bit `j + c` to bit `j`; above the operand it reads zeros, not the register's upper bits
(42_shift_rotate.md R254). -/
theorem getLsbD_lo_ushiftRight (v : XVal) :
    (lo n v >>> c).getLsbD j = (decide (j + c < n) && v.getLsbD (j + c)) := by
  rw [BitVec.getLsbD_ushiftRight, Nat.add_comm c j, lo, BitVec.getLsbD_setWidth]

/-- An arithmetic right shift moves bit `j + c` to bit `j` and fills with the operand's own sign, bit `N-1`
(42_shift_rotate.md R255). -/
theorem getLsbD_lo_sshiftRight (v : XVal) (hj : j < n) :
    ((lo n v).sshiftRight c).getLsbD j = if j + c < n then v.getLsbD (j + c) else v.getLsbD (n - 1) := by
  have hsign : (lo n v).msb = v.getLsbD (n - 1) := by
    rw [BitVec.msb_eq_getLsbD_last, getLsbD_of_lo (by omega)]
  rw [BitVec.getLsbD_sshiftRight, hsign, Nat.add_comm c j]
  by_cases hin : j + c < n
  · rw [if_pos hin, if_pos hin, getLsbD_of_lo hin]
    simp [hj]
  · simp [hin, hj]

/-- A rotate moves bit `(j - c) mod N` to bit `j`: the bits below `c` come from the top of the operand, the others from
`c` places below (42_shift_rotate.md R256). -/
theorem getLsbD_lo_rotate (v : XVal) (hc : c < n) (hj : j < n) :
    (rotate (lo n v) c).getLsbD j = v.getLsbD ((j + n - c) % n) := by
  rw [rotate, BitVec.getLsbD_rotateLeft_of_le hc]
  by_cases hwrap : j < c
  · have hsource : (j + n - c) % n = n - c + j := by
      rw [Nat.mod_eq_of_lt (by omega)]
      omega
    simp [hwrap, hsource, getLsbD_of_lo (show n - c + j < n by omega)]
  · have hsource : (j + n - c) % n = j - c := by
      rw [show j + n - c = j - c + n by omega, Nat.add_mod_right, Nat.mod_eq_of_lt (by omega)]
    simp [hwrap, hj, hsource, getLsbD_of_lo (show j - c < n by omega)]

end Sys2Proof.Machine

/-! ## The shifts and rotates -/

namespace Sys2Proof.Machine

/-- A shift or rotate with its register in the file and its count in range writes the bits of its operation. -/
theorem shiftReg_writesBits {n : Nat} (hn : n ≤ 64) {f : BitVec n → Nat → BitVec n} {reg cnt : Nat} {s : State}
    {bit : Nat → Bool} (hreg : reg < s.nireg) (hcnt : cnt < n)
    (hf : ∀ j, j < n → (f (lo n (s.readX reg)) cnt).getLsbD j = bit j) :
    WritesBits s.par.narrowExt n reg bit s (shiftReg n f reg cnt s) := by
  refine ⟨_, ((shiftReg_runs n f reg cnt s).2 hcnt).1 hreg, OnlyX.one s reg _, ?_⟩
  rw [State.advance_readX, State.readX_writeX_same _ _ hreg]
  refine ⟨fun j hj => ?_, upperBits_extend (Nat.zero_lt_of_lt hcnt) hn _ _ _⟩
  rw [← getLsbD_of_lo hj, lo_extend hn, hf j hj]

/-- Settles O46: two operations, each bit by bit, at four widths. -/
theorem logicalShifts : Obligations.LogicalShifts :=
  have left {n reg cnt : Nat} {s : State} (hn : n ≤ 64) (hreg : reg < s.nireg) (hcnt : cnt < n) :=
    shiftReg_writesBits (f := fun v c => v <<< c) hn hreg hcnt fun _ => getLsbD_lo_shiftLeft _
  have right {n reg cnt : Nat} {s : State} (hn : n ≤ 64) (hreg : reg < s.nireg) (hcnt : cnt < n) :=
    shiftReg_writesBits (f := fun v c => v >>> c) hn hreg hcnt fun _ _ => getLsbD_lo_ushiftRight _
  ⟨fun _ _ _ hreg => ⟨left (by decide) hreg, left (by decide) hreg, left (by decide) hreg, left (by decide) hreg⟩,
    fun _ _ _ hreg => ⟨right (by decide) hreg, right (by decide) hreg, right (by decide) hreg, right (by decide) hreg⟩⟩

/-- Settles O47: each instruction is the one operation at its own width. -/
theorem arithmeticShiftRight : Obligations.ArithmeticShiftRight :=
  fun _ cnt _ hreg =>
    have shift {n : Nat} (hn : n ≤ 64) (hcnt : cnt < n) :=
      shiftReg_writesBits (f := fun v c => v.sshiftRight c) hn hreg hcnt fun _ => getLsbD_lo_sshiftRight _
    ⟨shift (by decide), shift (by decide), shift (by decide), shift (by decide)⟩

/-- Settles O48: each instruction is the one operation at its own width. -/
theorem rotateLeft : Obligations.RotateLeft :=
  fun _ cnt _ hreg =>
    have rotated {n : Nat} (hn : n ≤ 64) (hcnt : cnt < n) :=
      shiftReg_writesBits (f := fun v c => rotate v c) hn hreg hcnt fun _ => getLsbD_lo_rotate _ hcnt
    ⟨rotated (by decide), rotated (by decide), rotated (by decide), rotated (by decide)⟩

end Sys2Proof.Machine

/-! ## Reserved operands -/

namespace Sys2Proof.Machine

/-- The instructions with a shift form are the shifts and rotates of the operand width their size names. -/
theorem exec_shift {i : Instr} {size : ShSize} {reg cnt : Nat} (hi : i.form = .shift size reg cnt) :
    ∃ f, ∀ s, exec i s = shiftReg size.width f reg cnt s := by
  cases i with dsimp only [exec]
  | lsllc _ _ | lsrlc _ _ | rllc _ _ | asrlc _ _
  | lslc _ _ | lsrc _ _ | rlc _ _ | asrc _ _
  | lslhc _ _ | lsrhc _ _ | rlhc _ _ | asrhc _ _
  | lslbc _ _ | lsrbc _ _ | rlbc _ _ | asrbc _ _ =>
    cases hi
    exact ⟨_, fun _ => rfl⟩
  | _ => cases hi

/-- The condition numbers that are not listed: 8, 16 and 26 to 31 (44_flag_svc.md R321). -/
theorem listedCond_eq_false_iff (q : BitVec 5) :
    listedCond q = false ↔ q.toNat = 8 ∨ q.toNat = 16 ∨ 26 ≤ q.toNat := by
  revert q
  decide

/-- A flag instruction with a condition number that is not listed, or a flag the machine lacks, stops. -/
theorem flagOn_stops {k : Nat} {q : BitVec 5} {s : State} (h : listedCond q = false ∨ s.nflags ≤ k)
    (f : Bool → Bool → Bool) : flagOn f k q s = .fault (.reservedInstruction s.word) := by
  refine (flagOn_runs f k q s).2 fun ⟨hlisted, hflag⟩ => ?_
  rcases h with hq | hk
  · exact absurd hlisted (by simp [hq])
  · omega

/-- Settles O49: the shifts stop at the check of their count, the flag instructions at that of their operands. -/
theorem reservedOperandsStop : Obligations.ReservedOperandsStop := by
  refine ⟨fun i s => ?_, fun k q s hbad => ?_⟩
  · split
    next size reg cnt hi =>
      obtain ⟨f, hexec⟩ := exec_shift hi
      rw [hexec]
      exact (shiftReg_runs size.width f reg cnt s).1
    next => trivial
  · have hreserved : listedCond q = false ∨ s.nflags ≤ k := by
      rw [listedCond_eq_false_iff]
      tauto
    dsimp only [exec, execSfc, execCfc, execCtf]
    exact ⟨flagOn_stops hreserved _, flagOn_stops hreserved _, flagOn_stops hreserved _⟩

end Sys2Proof.Machine

/-! PROOFS of the statements about the branches (43_branch.md R282 to R311). -/

/-! ## The target of a branch -/

namespace Sys2Proof.Machine

/-- Wrapping around is the remainder modulo `2^AW` (10_state.md R36). -/
theorem natCast_wrapAddr (p : Params) (a : Int) : (wrapAddr p a : Int) = a % 2 ^ p.aw := by
  rw [wrapAddr, Int.toNat_of_nonneg (Int.emod_nonneg _ (by positivity))]
  push_cast
  rfl

/-- The end of the container wraps around and the target does again, which is the same as once. -/
theorem State.branchTarget_of_lookup {s : State} {c : Container} (h : s.text.lookup s.pc.ca = some c)
    (disp : BitVec 8) :
    (s.branchTarget disp : Int) = (s.pc.ca + (c.len / 8 : Nat) + 4 * disp.toInt) % 2 ^ s.par.aw := by
  rw [State.branchTarget, State.endAddr, State.container_of_lookup h, natCast_wrapAddr, natCast_wrapAddr,
    Int.emod_add_emod]
  push_cast
  rfl

/-- Settles O14: the address is the target's. -/
theorem takenBranchTarget : Obligations.TakenBranchTarget :=
  fun s _ disp h => ⟨s.branchTarget disp, State.branchTarget_of_lookup h disp, rfl⟩

/-- A branch reaches its own container when the displacement takes back the container's length, modulo `2^AW`. -/
theorem State.branchTarget_eq_start_iff {s : State} {c : Container} (h : s.text.lookup s.pc.ca = some c)
    (hca : s.pc.ca < 2 ^ s.par.aw) (disp : BitVec 8) :
    s.branchTarget disp = s.pc.ca ↔ (2 ^ s.par.aw : Int) ∣ (c.len / 8 : Nat) + 4 * disp.toInt := by
  have hstart : (s.pc.ca : Int) % 2 ^ s.par.aw = s.pc.ca := by exact_mod_cast Nat.mod_eq_of_lt hca
  calc s.branchTarget disp = s.pc.ca
    _ ↔ (s.branchTarget disp : Int) = s.pc.ca := Int.natCast_inj.symm
    _ ↔ (s.pc.ca + ((c.len / 8 : Nat) + 4 * disp.toInt)) % 2 ^ s.par.aw = (s.pc.ca : Int) % 2 ^ s.par.aw := by
      rw [State.branchTarget_of_lookup h, hstart, add_assoc]
    _ ↔ (2 ^ s.par.aw : Int) ∣ (c.len / 8 : Nat) + 4 * disp.toInt := Int.add_modEq_left_iff

/-- The longest container (30_encoding.md R77). -/
theorem containerLen_le {n len : Nat} (h : containerLen n = some len) : len ≤ 288 := by
  unfold containerLen at h
  split at h <;> cases h <;> decide

/-- The lengths of the table that displacements, which count multiples of 32 bits, can take back (43_branch.md R286). -/
theorem Container.len_mod_thirtyTwo_iff {c : Container} (h : c.wf) :
    c.len % 32 = 0 ↔ c.len ∈ [64, 128, 160, 192, 224, 256, 288] :=
  (show ∀ r ∈ containerRows, r.1 % 32 = 0 ↔ r.1 ∈ [64, 128, 160, 192, 224, 256, 288] by decide) _
    (mem_rows_of_containerLen h)

/-- Settles O15: `2^AW` is a multiple of 4, so the length in bytes has to be one; it is then taken back exactly. -/
theorem selfBranchReach : Obligations.SelfBranchReach := by
  intro s c h hwf haw hca
  have hlen := containerLen_mod_sixteen hwf
  simp only [State.branchTarget_eq_start_iff h hca, ← Container.len_mod_thirtyTwo_iff hwf]
  constructor
  · rintro ⟨disp, hback⟩
    have hfour : (4 : Int) ∣ 2 ^ s.par.aw := pow_dvd_pow 2 haw
    have hbytes := hfour.trans hback
    omega
  · intro hmod
    have hle := containerLen_le hwf
    refine ⟨BitVec.ofInt 8 (-(c.len / 32 : Nat)), ?_⟩
    rw [BitVec.toInt_ofInt_eq_self (by decide) (by omega) (by omega)]
    exact ⟨0, by omega⟩

end Sys2Proof.Machine

/-! ## The conditions -/

namespace Sys2Proof.Machine

/-- The six masks of the raw and the unsigned group, which read their outcomes alike (43_branch.md R282). -/
theorem leh_masks (o : Leh) :
    ((1#3).getLsbD (lehBit o) = true ↔ o = .low) ∧
    ((2#3).getLsbD (lehBit o) = true ↔ o = .equal) ∧
    ((3#3).getLsbD (lehBit o) = true ↔ o = .low ∨ o = .equal) ∧
    ((4#3).getLsbD (lehBit o) = true ↔ o = .high) ∧
    ((5#3).getLsbD (lehBit o) = true ↔ o = .low ∨ o = .high) ∧
    ((6#3).getLsbD (lehBit o) = true ↔ o = .equal ∨ o = .high) := by
  cases o <;> decide

/-- The six masks of the signed group (43_branch.md R282). -/
theorem mzp_masks (o : Mzp) :
    ((1#3).getLsbD (mzpBit o) = true ↔ o = .minus) ∧
    ((2#3).getLsbD (mzpBit o) = true ↔ o = .zero) ∧
    ((3#3).getLsbD (mzpBit o) = true ↔ o = .minus ∨ o = .zero) ∧
    ((4#3).getLsbD (mzpBit o) = true ↔ o = .plus) ∧
    ((5#3).getLsbD (mzpBit o) = true ↔ o = .minus ∨ o = .plus) ∧
    ((6#3).getLsbD (mzpBit o) = true ↔ o = .zero ∨ o = .plus) := by
  cases o <;> decide

/-- Condition number 0 selects no outcome of the raw group (43_branch.md R287). -/
theorem holds_zero (cc : CC) : holds 0#5 cc = false :=
  BitVec.getLsbD_zero

theorem holds_raw (cc : CC) :
    (holds 1#5 cc = true ↔ cc.raw = .low) ∧
    (holds 2#5 cc = true ↔ cc.raw = .equal) ∧
    (holds 3#5 cc = true ↔ cc.raw = .low ∨ cc.raw = .equal) ∧
    (holds 4#5 cc = true ↔ cc.raw = .high) ∧
    (holds 5#5 cc = true ↔ cc.raw = .low ∨ cc.raw = .high) ∧
    (holds 6#5 cc = true ↔ cc.raw = .equal ∨ cc.raw = .high) :=
  leh_masks cc.raw

theorem holds_signed (cc : CC) :
    (holds 9#5 cc = true ↔ cc.sgn = .minus) ∧
    (holds 10#5 cc = true ↔ cc.sgn = .zero) ∧
    (holds 11#5 cc = true ↔ cc.sgn = .minus ∨ cc.sgn = .zero) ∧
    (holds 12#5 cc = true ↔ cc.sgn = .plus) ∧
    (holds 13#5 cc = true ↔ cc.sgn = .minus ∨ cc.sgn = .plus) ∧
    (holds 14#5 cc = true ↔ cc.sgn = .zero ∨ cc.sgn = .plus) :=
  mzp_masks cc.sgn

theorem holds_unsigned (cc : CC) :
    (holds 17#5 cc = true ↔ cc.uns = .low) ∧
    (holds 18#5 cc = true ↔ cc.uns = .equal) ∧
    (holds 19#5 cc = true ↔ cc.uns = .low ∨ cc.uns = .equal) ∧
    (holds 20#5 cc = true ↔ cc.uns = .high) ∧
    (holds 21#5 cc = true ↔ cc.uns = .low ∨ cc.uns = .high) ∧
    (holds 22#5 cc = true ↔ cc.uns = .equal ∨ cc.uns = .high) :=
  leh_masks cc.uns

/-- The numbers with a mask of 7 in the signed and the unsigned group, and the two of the last group, read one bit. -/
theorem holds_bits (cc : CC) :
    (holds 15#5 cc = true ↔ cc.v = false) ∧ (holds 25#5 cc = true ↔ cc.v = true) ∧
    (holds 23#5 cc = true ↔ cc.c = false) ∧ (holds 24#5 cc = true ↔ cc.c = true) :=
  ⟨(Bool.not_eq_true' _).to_iff, Iff.rfl, (Bool.not_eq_true' _).to_iff, Iff.rfl⟩

/-- Settles O55, group by group. -/
theorem conditionNumbersSelectOutcomes : Obligations.ConditionNumbersSelectOutcomes := by
  intro cc
  obtain ⟨r1, r2, r3, r4, r5, r6⟩ := holds_raw cc
  obtain ⟨s1, s2, s3, s4, s5, s6⟩ := holds_signed cc
  obtain ⟨u1, u2, u3, u4, u5, u6⟩ := holds_unsigned cc
  exact ⟨holds_zero cc, rfl, r1, r2, r3, r4, r5, r6, s1, s2, s3, s4, s5, s6, u1, u2, u3, u4, u5, u6, holds_bits cc⟩

end Sys2Proof.Machine

/-! ## The branches -/

namespace Sys2Proof.Machine

/-- A branch is taken on what its condition number means. -/
theorem branchOn_takenIff {cn : BitVec 5} {p : Prop} {s : State} (h : holds cn s.cc = true ↔ p) (disp : BitVec 8) :
    TakenIff p disp s (branchOn cn disp s) := by
  obtain ⟨hholds, hrun⟩ | ⟨hholds, hrun⟩ := branchOn_cases cn disp s
  · exact ⟨fun _ => hrun, fun hp => absurd (h.1 hholds) hp⟩
  · exact ⟨fun hp => absurd (h.2 hp) (by simp [hholds]), fun _ => hrun⟩

theorem TakenIff.congr {p q : Prop} {disp : BitVec 8} {s : State} {o : Result} (h : TakenIff p disp s o) (hpq : p ↔ q) :
    TakenIff q disp s o :=
  ⟨fun hq => h.1 (hpq.2 hq), fun hq => h.2 (mt hpq.1 hq)⟩

/-- Settles O50: each branch has the condition number of its outcomes. -/
theorem rawBranches : Obligations.RawBranches := by
  intro disp s
  obtain ⟨hl, he, hle, hh, hne, hhe⟩ := holds_raw s.cc
  exact ⟨branchOn_takenIff hl disp, branchOn_takenIff he disp, branchOn_takenIff hle disp, branchOn_takenIff hh disp,
    branchOn_takenIff hne disp, branchOn_takenIff (hhe.trans or_comm) disp⟩

/-- Settles O51: each branch has the condition number of its outcomes. -/
theorem signedBranches : Obligations.SignedBranches := by
  intro disp s
  obtain ⟨hm, hz, hmz, hp, hnz, hpz⟩ := holds_signed s.cc
  exact ⟨branchOn_takenIff hm disp, branchOn_takenIff hz disp, branchOn_takenIff hmz disp, branchOn_takenIff hp disp,
    branchOn_takenIff hnz disp, branchOn_takenIff (hpz.trans or_comm) disp⟩

/-- Settles O52: each branch has the condition number of its outcomes. -/
theorem unsignedBranches : Obligations.UnsignedBranches := by
  intro disp s
  obtain ⟨hl, he, hle, hh, hne, hhe⟩ := holds_unsigned s.cc
  exact ⟨branchOn_takenIff hl disp, branchOn_takenIff he disp, branchOn_takenIff hle disp, branchOn_takenIff hh disp,
    branchOn_takenIff hne disp, branchOn_takenIff (hhe.trans or_comm) disp⟩

/-- Settles O53: each branch has the condition number of its bit, B the one that always holds. -/
theorem overflowAndCarryBranches : Obligations.OverflowAndCarryBranches := by
  intro disp s
  obtain ⟨hnv, hv, hnc, hc⟩ := holds_bits s.cc
  have halways : holds 7#5 s.cc = true ↔ True := iff_true_intro rfl
  exact ⟨branchOn_takenIff hnv disp, branchOn_takenIff hv disp, branchOn_takenIff hnc disp, branchOn_takenIff hc disp,
    branchOn_takenIff halways disp⟩

/-- Of two branches on opposite conditions exactly one is taken. -/
theorem TakenIff.oneTaken {p q : Prop} {disp : BitVec 8} {s : State} {a b : Result} (ha : TakenIff p disp s a)
    (hb : TakenIff q disp s b) (hpq : q ↔ ¬p) : OneTaken disp s a b := by
  by_cases hp : p
  · exact .inl ⟨ha.1 hp, hb.2 fun hq => hpq.1 hq hp⟩
  · exact .inr ⟨ha.2 hp, hb.1 (hpq.2 hp)⟩

/-- A raw or unsigned outcome is one of three, so each is the complement of the two others (10_state.md R29). -/
theorem leh_complements (o : Leh) :
    (o = .high ∨ o = .equal ↔ ¬o = .low) ∧ (o = .low ∨ o = .high ↔ ¬o = .equal) ∧
      (o = .low ∨ o = .equal ↔ ¬o = .high) := by
  cases o <;> decide

/-- A signed outcome is one of three, so each is the complement of the two others (10_state.md R29). -/
theorem mzp_complements (o : Mzp) :
    (o = .plus ∨ o = .zero ↔ ¬o = .minus) ∧ (o = .minus ∨ o = .plus ↔ ¬o = .zero) ∧
      (o = .minus ∨ o = .zero ↔ ¬o = .plus) := by
  cases o <;> decide

/-- Settles O56: the conditions of a pair are complements; B is always taken and NOP never. -/
theorem complementPairs : Obligations.ComplementPairs := by
  intro disp s
  obtain ⟨blr, ber, bler, bhr, bner, bher⟩ := rawBranches disp s
  obtain ⟨bm, bz, bmz, bp, bnz, bpz⟩ := signedBranches disp s
  obtain ⟨bl, be, ble, bh, bne, bhe⟩ := unsignedBranches disp s
  obtain ⟨bnv, bv, bnc, bc, b⟩ := overflowAndCarryBranches disp s
  obtain ⟨notLowRaw, notEqualRaw, notHighRaw⟩ := leh_complements s.cc.raw
  obtain ⟨notMinus, notZero, notPlus⟩ := mzp_complements s.cc.sgn
  obtain ⟨notLow, notEqual, notHigh⟩ := leh_complements s.cc.uns
  exact ⟨blr.oneTaken bher notLowRaw, ber.oneTaken bner notEqualRaw, bhr.oneTaken bler notHighRaw,
    bm.oneTaken bpz notMinus, bz.oneTaken bnz notZero, bp.oneTaken bmz notPlus,
    bl.oneTaken bhe notLow, be.oneTaken bne notEqual, bh.oneTaken ble notHigh,
    bv.oneTaken bnv (Bool.not_eq_true _).symm.to_iff, bc.oneTaken bnc (Bool.not_eq_true _).symm.to_iff,
    .inl ⟨b.1 trivial, rfl⟩⟩

end Sys2Proof.Machine

/-! ## A branch after COMPARE -/

namespace Sys2Proof.Machine

/-- Of three different outcomes each stands for one order of two numbers. -/
theorem ite_lt_eq_outcomes {α : Type} {l e g : α} (hle : l ≠ e) (hlg : l ≠ g) (heg : e ≠ g) (a b : Int) :
    ((if a < b then l else if a = b then e else g) = l ↔ a < b) ∧
    ((if a < b then l else if a = b then e else g) = e ↔ a = b) ∧
    ((if a < b then l else if a = b then e else g) = g ↔ a > b) := by
  rcases lt_trichotomy a b with h | h | h
  · simp [h, hle, hlg, h.ne, h.not_gt]
  · simp [h, hle.symm, heg]
  · simp [h, hlg.symm, heg.symm, h.ne', h.not_gt]

/-- The branches see the signed and the unsigned order of `a` against `b` over `N` bits (43_branch.md R283). -/
def BranchesSeeOrders (n : Nat) (a b : XVal) (t : State) : Prop :=
  ∀ disp,
    TakenIff (sval n a < sval n b) disp t (exec (.bm disp) t) ∧
    TakenIff (sval n a = sval n b) disp t (exec (.bz disp) t) ∧
    TakenIff (sval n a > sval n b) disp t (exec (.bp disp) t) ∧
    TakenIff (uval n a < uval n b) disp t (exec (.bl disp) t) ∧
    TakenIff (uval n a = uval n b) disp t (exec (.be disp) t) ∧
    TakenIff (uval n a > uval n b) disp t (exec (.bh disp) t) ∧
    exec (.bnv disp) t = .next (t.jump disp) ∧ exec (.bv disp) t = .next t.advance

/-- Codes that report the orders show them to the branches. -/
theorem ReportsOrders.branchesSeeOrders {n : Nat} {a b : XVal} {t : State} (h : ReportsOrders n a b t.cc) :
    BranchesSeeOrders n a b t := by
  intro disp
  obtain ⟨hsgn, huns, hv⟩ := h
  obtain ⟨hm, hz, hp⟩ := ite_lt_eq_outcomes (l := Mzp.minus) (e := .zero) (g := .plus) nofun nofun nofun
    (sval n a) (sval n b)
  obtain ⟨hl, he, hh⟩ := ite_lt_eq_outcomes (l := Leh.low) (e := .equal) (g := .high) nofun nofun nofun
    (uval n a) (uval n b)
  rw [← hsgn] at hm hz hp
  rw [← huns] at hl he hh
  obtain ⟨bm, bz, -, bp, -⟩ := signedBranches disp t
  obtain ⟨bl, be, -, bh, -⟩ := unsignedBranches disp t
  obtain ⟨bnv, bv, -⟩ := overflowAndCarryBranches disp t
  exact ⟨bm.congr hm, bz.congr hz, bp.congr hp, bl.congr hl, be.congr he, bh.congr hh, bnv.1 hv, bv.2 (by simp [hv])⟩

/-- COMPARE at any width, and the branch after it. -/
theorem intCompare_branchesSeeOrders {n : Nat} (h0 : 0 < n) {rd rs : Nat} {s : State} (hd : rd < s.nireg)
    (hs : rs < s.nireg) :
    ∃ t, intCompare n rd rs s = .next t ∧ BranchesSeeOrders n (s.readX rd) (s.readX rs) t :=
  (intCompare_reportsOrders h0 hd hs).imp fun _ ⟨hrun, _, horders⟩ => ⟨hrun, horders.branchesSeeOrders⟩

/-- Settles O57: each instruction is the one comparison at its own width. -/
theorem compareThenBranch : Obligations.CompareThenBranch :=
  fun _ _ s hd hs =>
    have compare {n : Nat} (h0 : 0 < n) := intCompare_branchesSeeOrders (s := s) h0 hd hs
    ⟨compare (by decide), compare (by decide), compare (by decide), compare (by decide)⟩

end Sys2Proof.Machine

/-! ## NOP -/

namespace Sys2Proof

/-- The words of condition value 0 are NOP under every layout (30_encoding.md R84). -/
theorem decodeWith_nopWord (L : Layouts) (low : BitVec 8) : decodeWith L (branchWord 0 low) = some (.nop low) := by
  obtain ⟨hspace, hcv⟩ := fieldNat_branchWord 0 low
  exact decodeWith_eq_some_iff.2 (.branch .nop hspace (by rw [hcv]; rfl)
    (congrArg Instr.nop (extractLsb'_branchWord 0 low)))

/-- Settles O54: the words are those of condition value 0, and the all-zero word has the blank opcode. -/
theorem nopDoesNothing : Obligations.NopDoesNothing :=
  ⟨decodeWith_nopWord, fun L => reservedWordsDecodeToNothing L 0#18 (.inl (by decide)), fun _ _ => rfl⟩

end Sys2Proof

/-! PROOFS of the statements about the flag instructions and the supervisor call (44_flag_svc.md R321 to R328). -/

namespace Sys2Proof.Machine

/-- The answer goes on in sequence with flag `k` equal to `b` and nothing else changed. -/
def WritesFlag (k : Nat) (b : Bool) (s : State) (o : Result) : Prop :=
  ∃ t, o = .next t ∧ OnlyFlag k s t ∧ t.readFlag k = b

/-- A flag instruction with a listed condition and a flag of the machine writes what its operation gives
(44_flag_svc.md R321, R325). -/
theorem flagOn_writesFlag {k : Nat} {q : BitVec 5} {s : State} (hq : listedCond q = true) (hk : k < s.nflags)
    (f : Bool → Bool → Bool) : WritesFlag k (f (holds q s.cc) (s.readFlag k)) s (flagOn f k q s) := by
  refine ⟨_, (flagOn_runs f k q s).1 ⟨hq, hk⟩, OnlyFlag.intro s k _, ?_⟩
  rw [State.advance_readFlag, State.readFlag_writeFlag_same s _ hk]

/-- To set on a condition is to join it to the old value (44_flag_svc.md R322). -/
theorem or_eq_ite_true (met old : Bool) : (met || old) = if met then true else old := by
  cases met <;> rfl

/-- To clear on a condition is to keep the old value only where it fails (44_flag_svc.md R323). -/
theorem not_and_eq_ite_false (met old : Bool) : (!met && old) = if met then false else old := by
  cases met <;> rfl

/-- Settles O58: each instruction is the one write of a flag with its own operation. -/
theorem flagInstructionsWriteOneFlag : Obligations.FlagInstructionsWriteOneFlag := by
  intro k q s hq hk
  rw [← or_eq_ite_true, ← not_and_eq_ite_false]
  exact ⟨flagOn_writesFlag hq hk fun met old => met || old, flagOn_writesFlag hq hk fun met old => !met && old,
    flagOn_writesFlag hq hk fun met _ => met⟩

/-- Settles O59: the call makes no check and leads to no state. -/
theorem supervisorCallEndsTheRun : Obligations.SupervisorCallEndsTheRun :=
  fun _ _ => rfl

end Sys2Proof.Machine

/-! PROOFS of the statements that rest on 60_exceptions.md: the word a fault records (R341, R343) and the mode (R351). -/

/-! ## The word a fault records -/

namespace Sys2Proof.Machine

/-- An operation with one stop faults in no other way. -/
theorem Runs.of_fault {ok : Prop} {t : State} {k k' : Fault} {o : Result} (h : Runs ok t k o)
    (hf : o = .fault k') : k' = k := by
  by_cases hok : ok
  · cases (h.1 hok).symm.trans hf
  · cases (h.2 hok).symm.trans hf
    rfl

theorem Runs.fault_word {ok : Prop} {t : State} {k k' : Fault} {o : Result} {w : Word} (h : Runs ok t k o)
    (hk : k.word = w) (hf : o = .fault k') : k'.word = w :=
  h.of_fault hf ▸ hk

/-- The three stops of a division record one word. -/
theorem RunsDivision.fault_word {regs zero ovf : Prop} {t : State} {w : Word} {o : Result} {k : Fault}
    (h : RunsDivision regs zero ovf t w o) (hf : o = .fault k) : k.word = w := by
  obtain ⟨hbad, hzero, hovf, hnext⟩ := h
  by_cases hregs : regs
  · by_cases hz : zero
    · cases (hzero hregs hz).symm.trans hf
      rfl
    · by_cases ho : ovf
      · cases (hovf hregs hz ho).symm.trans hf
        rfl
      · cases (hnext hregs hz ho).symm.trans hf
  · cases (hbad hregs).symm.trans hf
    rfl

theorem shiftReg_fault_word {n : Nat} {f : BitVec n → Nat → BitVec n} {reg cnt : Nat} {s : State} {k : Fault}
    (h : shiftReg n f reg cnt s = .fault k) : k.word = s.word := by
  obtain ⟨hreserved, hruns⟩ := shiftReg_runs n f reg cnt s
  rcases Nat.lt_or_ge cnt n with hcnt | hcnt
  · exact (hruns hcnt).fault_word rfl h
  · cases (hreserved hcnt).symm.trans h
    rfl

/-- An instruction that faults records the word the program counter names (60_exceptions.md R341), by the shape of each
instruction. -/
theorem exec_fault_word (i : Instr) (s : State) (k : Fault) : exec i s = .fault k → k.word = s.word := by
  cases i with dsimp only [exec]
  | cb rd rs | ch rd rs | c rd rs | cl rd rs => exact (intCompare_runs _ rd rs s).fault_word rfl
  | lb rd rs | lh rd rs | l rd rs | ll rd rs
  | stb rd rs | sth rd rs | st rd rs | stl rd rs
  | ulb rd rs | ulh rd rs | ul rd rs
  | ib rd rs | ih rd rs | i rd rs
  | ab rd rs | ah rd rs | a rd rs | al rd rs
  | sb rd rs | sh rd rs | s rd rs | sl rd rs
  | mb rd rs | mh rd rs | m rd rs | ml rd rs
  | xb rd rs | xh rd rs | x rd rs | xl rd rs
  | nb rd rs | nh rd rs | n rd rs | nl rd rs
  | ob rd rs | oh rd rs | o rd rs | ol rd rs => exact (intResult_runs _ _ _ rd rs s).fault_word rfl
  | swb rd rs | swh rd rs | sw rd rs | swl rd rs => exact (intSwap_runs _ rd rs s).fault_word rfl
  | meh rd rs | me rd rs => exact (mulExtend_runs _ rd rs s).fault_word rfl
  | mel rd rs => exact (mulExtendLong_runs rd rs s).fault_word rfl
  | db rd rs | dh rd rs | d rd rs | dl rd rs => exact (intDivide_runs _ rd rs s).fault_word
  | dub rd rs | duh rd rs | du rd rs | dul rd rs => exact (intDivideUnsigned_runs _ rd rs s).fault_word
  | deh rd rs | de rd rs => exact (divExtend_runs _ rd rs s).fault_word
  | deuh rd rs | deu rd rs => exact (divExtendUnsigned_runs _ rd rs s).fault_word
  | del rd rs => exact (divExtendLong_runs rd rs s).fault_word
  | deul rd rs => exact (divExtendUnsignedLong_runs rd rs s).fault_word
  | cm rd rs | cf rd rs | cd rd rs | cq rd rs => exact (floatCompare_runs _ rd rs s).fault_word rfl
  | swm rd rs | swf rd rs | swd rd rs | swq rd rs => exact (floatSwapRegs_runs _ rd rs s).fault_word rfl
  | lm rd rs | lf rd rs | ld rd rs | lq rd rs
  | stm rd rs | stf rd rs | std rd rs | stq rd rs
  | am rd rs | af rd rs | ad rd rs | aq rd rs
  | sm rd rs | sf rd rs | sd rd rs | sq rd rs
  | mm rd rs | mf rd rs | md rd rs | mq rd rs
  | dm rd rs | df rd rs | dd rd rs | dq rd rs => exact (floatResult_runs _ rd rs s).fault_word rfl
  | lsllc reg cnt | lsrlc reg cnt | rllc reg cnt | asrlc reg cnt
  | lslc reg cnt | lsrc reg cnt | rlc reg cnt | asrc reg cnt
  | lslhc reg cnt | lsrhc reg cnt | rlhc reg cnt | asrhc reg cnt
  | lslbc reg cnt | lsrbc reg cnt | rlbc reg cnt | asrbc reg cnt => exact shiftReg_fault_word
  | nop disp => nofun
  | blr disp | ber disp | bler disp | bhr disp | bner disp | bher disp | b disp
  | bm disp | bz disp | bmz disp | bp disp | bnz disp | bpz disp | bnv disp
  | bl disp | be disp | ble disp | bh disp | bne disp | bhe disp | bnc disp | bc disp | bv disp =>
    exact fun h => absurd h (branchOn_ne_fault _ disp s k)
  | sfc k q | cfc k q | ctf k q => exact (flagOn_runs _ k q s).fault_word rfl
  | svc code => nofun

/-- A step that faults has fetched a word, and the fault records it: the step's own fault and the instruction's. -/
theorem step_fault_word {s : State} {k : Fault} (h : step s = .fault k) : s.fetch = .ok k.word := by
  obtain ⟨_, _, hstep⟩ | ⟨w, hfetch, _, hstep⟩ | ⟨w, i, hfetch, _, hstep⟩ := step_cases s <;> rw [hstep] at h
  · cases h
  · cases h
    exact hfetch
  · rw [exec_fault_word i s k h, State.word_of_fetch hfetch]
    exact hfetch

/-- Settles O8: the fetch gave the word the fault records. -/
theorem faultNamesTheFetchedWord : Obligations.FaultNamesTheFetchedWord := by
  intro s k h
  obtain ⟨c, hc, hw⟩ := State.fetch_ok.1 (step_fault_word h)
  exact ⟨c, k.word, hc, hw, rfl⟩

end Sys2Proof.Machine

/-! ## The mode -/

namespace Sys2Proof.Machine

theorem sparesControl_set_mode (m : Mode) : SparesControl fun t => { t with mode := m } :=
  ⟨fun _ => rfl, fun _ => rfl, fun _ => rfl, fun _ => rfl, fun _ => rfl, fun _ _ => rfl, fun _ _ => rfl⟩

theorem sparesX_set_mode (m : Mode) : SparesX fun t => { t with mode := m } :=
  ⟨fun _ => rfl, fun _ _ _ => rfl⟩

theorem sparesF_set_mode (m : Mode) : SparesF fun t => { t with mode := m } :=
  ⟨fun _ => rfl, fun _ _ _ => rfl⟩

theorem sparesFlags_set_mode (m : Mode) : SparesFlags fun t => { t with mode := m } :=
  ⟨fun _ => rfl, fun _ _ _ => rfl⟩

/-- Settles O20: the mode is outside everything an instruction reads or writes. -/
theorem modeDoesNotMatter : Obligations.ModeDoesNotMatter :=
  fun i s m => exec_spares (sparesControl_set_mode m) i s (fun _ => sparesX_set_mode m) (fun _ => sparesF_set_mode m)
    fun _ => sparesFlags_set_mode m

end Sys2Proof.Machine

/-! PROOFS of the statements that rest on 70_reset_and_hazards.md: the step (R379) and the clearing of a register (R373). -/

/-! ## The step -/

namespace Sys2Proof.Machine

/-- A word that is an instruction runs (70_reset_and_hazards.md R379). -/
theorem step_of_decodeWord_eq_some {s : State} {w : Word} {i : Instr} (hw : s.fetch = .ok w)
    (hi : s.decodeWord w = some i) : step s = exec i s := by
  simp [step, hw, hi]

/-- A word that is no instruction stops the run (92_eei_decisions.md D28). -/
theorem step_of_decodeWord_eq_none {s : State} {w : Word} (hw : s.fetch = .ok w) (hnone : s.decodeWord w = none) :
    step s = .fault (.reservedInstruction w) := by
  simp [step, hw, hnone, raise]

/-- Settles O6: the fetch gives the slot's word, and at the reference layouts what a word decodes to is well formed. -/
theorem stepRunsTheDecodedInstruction : Obligations.StepRunsTheDecodedInstruction := by
  intro s c w hc hw
  have hfetch : s.fetch = .ok w := State.fetch_ok.2 ⟨c, hc, hw⟩
  refine ⟨fun i hi => ⟨step_of_decodeWord_eq_some hfetch hi, fun href => ?_⟩, step_of_decodeWord_eq_none hfetch⟩
  have hdecode : decode w = some i := (State.decodeWord_ref href w).symm.trans hi
  exact ⟨hdecode, (encodeAfterDecode w i hdecode).1⟩

end Sys2Proof.Machine

/-! ## Clearing a register -/

namespace Sys2Proof.Machine

/-- A zero result makes the whole register zero, unless the upper bits are left as they were (00_scope.md R18). -/
theorem extend_zero {e : Ext} (he : e ≠ .unchanged) (n : Nat) (old : XVal) : extend e old 0#n = 0 := by
  cases e with
  | sign => exact (BitVec.signExtend_eq_setWidth_of_msb_false BitVec.msb_zero).trans (BitVec.setWidth_zero 64 n)
  | zero => exact BitVec.setWidth_zero 64 n
  | unchanged => exact absurd rfl he

theorem uval_long_eq_zero_iff (v : XVal) : uval 64 v = 0 ↔ v = 0 := by
  rw [← sval_eq_zero_iff (by decide), sval_long, toInt_eq_zero_iff]

/-- The instruction completes in sequence and clears the low `N` bits of one integer register, and the upper bits too
unless `e` keeps them. -/
def Clears (e : Ext) (n d : Nat) (s : State) (o : Result) : Prop :=
  ∃ t, o = .next t ∧ OnlyX [d] s t ∧ uval n (t.readX d) = 0 ∧ (e ≠ .unchanged → t.readX d = 0)

/-- An operation that takes equal operands to zero clears a register named twice. -/
theorem intResult_self_clears {n : Nat} (hn : n ≤ 64) (e : Ext) {f : BitVec n → BitVec n → BitVec n} {d : Nat}
    {s : State} (hd : d < s.nireg) (hf : ∀ a, f a a = 0#n) : Clears e n d s (intResult n e f d d s) := by
  refine ⟨_, (intResult_runs n e f d d s).1 ⟨hd, hd⟩, OnlyX.one s d _, ?_⟩
  rw [State.advance_readX, State.readX_writeX_same _ _ hd, hf]
  refine ⟨?_, fun he => extend_zero he n _⟩
  rw [uval_eq, lo_extend hn]
  simp

/-- The low 64 bits are the whole register, whatever the parameter. -/
theorem Clears.long {e : Ext} {d : Nat} {s : State} {o : Result} (h : Clears e 64 d s o) :
    ∃ t, o = .next t ∧ OnlyX [d] s t ∧ t.readX d = 0 := by
  obtain ⟨t, ho, hframe, hlow, -⟩ := h
  exact ⟨t, ho, hframe, (uval_long_eq_zero_iff _).1 hlow⟩

/-- Settles O40: a location less itself and a location exclusive-or itself are zero, at four widths. -/
theorem clearingARegister : Obligations.ClearingARegister :=
  fun _ s hd =>
    have sub {n : Nat} (hn : n ≤ 64) :=
      intResult_self_clears hn s.par.narrowExt (f := fun a b => a - b) hd BitVec.sub_self
    have xor {n : Nat} (hn : n ≤ 64) :=
      intResult_self_clears hn s.par.narrowExt (f := fun a b => a ^^^ b) hd fun _ => BitVec.xor_self
    ⟨sub (by decide), sub (by decide), sub (by decide), (sub (by decide)).long,
      xor (by decide), xor (by decide), xor (by decide), (xor (by decide)).long⟩

end Sys2Proof.Machine
